-- ==== Sys2Proof/Word.lean ====
section
/-! DEFINITION. The two bit-vector types of the block: bytes and 16-bit words (00_scope.md R6). Every helper that picks,
joins or extends bits stands in Decode.lean or under Machine/. -/

namespace Sys2Proof

/-- A Byte is an 8-bit unsigned value (R6). -/
abbrev Byte := BitVec 8

/-- A Word is a 16-bit unsigned value whose arithmetic wraps mod 65536 (R6). -/
abbrev Word := BitVec 16

end Sys2Proof
end

