-- ==== Sys2Proof/Syntax.lean ====
section
/-! DEFINITION. The operands and the instructions of the block, one constructor of `Instr` for each mnemonic of
spec/opcode_table.json (the three LEA rows share one mnemonic, and so do the INVALID rows). -/

namespace Sys2Proof

/-- The word registers, in the order of their numbers 0 to 7 (10_state.md R31). -/
inductive Reg16 where
  | ax | cx | dx | bx | sp | bp | si | di
  deriving DecidableEq, Repr

/-- The byte registers, in the order of their numbers 0 to 7 (10_state.md R32). -/
inductive Reg8 where
  | al | cl | dl | bl | ah | ch | dh | bh
  deriving DecidableEq, Repr

/-- The segment registers, in the order of their numbers 0 to 3 (10_state.md R36). -/
inductive SegReg where
  | es | cs | ss | ds
  deriving DecidableEq, Repr

/-- The eight register sums of the effective-address table, in the order of the rm field (30_encoding.md R125). -/
inductive EaBase where
  | bxSi | bxDi | bpSi | bpDi | si | di | bp | bx
  deriving DecidableEq, Repr

/-- A memory r/m operand, with the displacement form its mod field selects (30_encoding.md R123, R125): `base` is mod 00
(not with `bp`, whose place the direct address takes), `direct` is mod 00 with rm 110, `disp8` is mod 01, `disp16` is
mod 10. -/
inductive MemRef where
  | base (b : EaBase)
  | direct (off : Word)
  | disp8 (b : EaBase) (d : Byte)
  | disp16 (b : EaBase) (d : Word)
  deriving DecidableEq, Repr

/-- An r/m operand: a register (mod 11) or a memory location (30_encoding.md R124). -/
inductive Rm (ρ : Type) where
  | reg (r : ρ)
  | mem (m : MemRef)
  deriving DecidableEq, Repr

/-- `r/m8`. -/
abbrev Rm8 := Rm Reg8

/-- `r/m16`. -/
abbrev Rm16 := Rm Reg16

/-- The instructions. A segment-override prefix is a constructor of its own: a step runs the prefix, which sets
`segOverride`, and then the instruction it belongs to (30_encoding.md R131, log entry 4). `invalid` carries the rejected
opcode byte and, where the ModRM byte decided it, that byte (R166, R167, log entry 5). -/
inductive Instr where
  /-- ADD r/m8, r8: 00 /r (R320). -/
  | addRm8R8 (rm : Rm8) (r : Reg8)
  /-- ADD r/m16, r16: 01 /r (R320). -/
  | addRm16R16 (rm : Rm16) (r : Reg16)
  /-- ADD r8, r/m8: 02 /r (R320). -/
  | addR8Rm8 (r : Reg8) (rm : Rm8)
  /-- ADD r16, r/m16: 03 /r (R320). -/
  | addR16Rm16 (r : Reg16) (rm : Rm16)
  /-- ADD AL, imm8: 04 ib (R320). -/
  | addAlImm8 (imm : Byte)
  /-- ADD AX, imm16: 05 iw (R320). -/
  | addAxImm16 (imm : Word)
  /-- OR r/m8, r8: 08 /r (R361). -/
  | orRm8R8 (rm : Rm8) (r : Reg8)
  /-- OR r/m16, r16: 09 /r (R361). -/
  | orRm16R16 (rm : Rm16) (r : Reg16)
  /-- OR r8, r/m8: 0A /r (R361). -/
  | orR8Rm8 (r : Reg8) (rm : Rm8)
  /-- OR r16, r/m16: 0B /r (R361). -/
  | orR16Rm16 (r : Reg16) (rm : Rm16)
  /-- OR AL, imm8: 0C ib (R361). -/
  | orAlImm8 (imm : Byte)
  /-- OR AX, imm16: 0D iw (R361). -/
  | orAxImm16 (imm : Word)
  /-- ADC r/m8, r8: 10 /r (R321). -/
  | adcRm8R8 (rm : Rm8) (r : Reg8)
  /-- ADC r/m16, r16: 11 /r (R321). -/
  | adcRm16R16 (rm : Rm16) (r : Reg16)
  /-- ADC r8, r/m8: 12 /r (R321). -/
  | adcR8Rm8 (r : Reg8) (rm : Rm8)
  /-- ADC r16, r/m16: 13 /r (R321). -/
  | adcR16Rm16 (r : Reg16) (rm : Rm16)
  /-- ADC AL, imm8: 14 ib (R321). -/
  | adcAlImm8 (imm : Byte)
  /-- ADC AX, imm16: 15 iw (R321). -/
  | adcAxImm16 (imm : Word)
  /-- SBB r/m8, r8: 18 /r (R323). -/
  | sbbRm8R8 (rm : Rm8) (r : Reg8)
  /-- SBB r/m16, r16: 19 /r (R323). -/
  | sbbRm16R16 (rm : Rm16) (r : Reg16)
  /-- SBB r8, r/m8: 1A /r (R323). -/
  | sbbR8Rm8 (r : Reg8) (rm : Rm8)
  /-- SBB r16, r/m16: 1B /r (R323). -/
  | sbbR16Rm16 (r : Reg16) (rm : Rm16)
  /-- SBB AL, imm8: 1C ib (R323). -/
  | sbbAlImm8 (imm : Byte)
  /-- SBB AX, imm16: 1D iw (R323). -/
  | sbbAxImm16 (imm : Word)
  /-- AND r/m8, r8: 20 /r (R360). -/
  | andRm8R8 (rm : Rm8) (r : Reg8)
  /-- AND r/m16, r16: 21 /r (R360). -/
  | andRm16R16 (rm : Rm16) (r : Reg16)
  /-- AND r8, r/m8: 22 /r (R360). -/
  | andR8Rm8 (r : Reg8) (rm : Rm8)
  /-- AND r16, r/m16: 23 /r (R360). -/
  | andR16Rm16 (r : Reg16) (rm : Rm16)
  /-- AND AL, imm8: 24 ib (R360). -/
  | andAlImm8 (imm : Byte)
  /-- AND AX, imm16: 25 iw (R360). -/
  | andAxImm16 (imm : Word)
  /-- SUB r/m8, r8: 28 /r (R322). -/
  | subRm8R8 (rm : Rm8) (r : Reg8)
  /-- SUB r/m16, r16: 29 /r (R322). -/
  | subRm16R16 (rm : Rm16) (r : Reg16)
  /-- SUB r8, r/m8: 2A /r (R322). -/
  | subR8Rm8 (r : Reg8) (rm : Rm8)
  /-- SUB r16, r/m16: 2B /r (R322). -/
  | subR16Rm16 (r : Reg16) (rm : Rm16)
  /-- SUB AL, imm8: 2C ib (R322). -/
  | subAlImm8 (imm : Byte)
  /-- SUB AX, imm16: 2D iw (R322). -/
  | subAxImm16 (imm : Word)
  /-- XOR r/m8, r8: 30 /r (R362). -/
  | xorRm8R8 (rm : Rm8) (r : Reg8)
  /-- XOR r/m16, r16: 31 /r (R362). -/
  | xorRm16R16 (rm : Rm16) (r : Reg16)
  /-- XOR r8, r/m8: 32 /r (R362). -/
  | xorR8Rm8 (r : Reg8) (rm : Rm8)
  /-- XOR r16, r/m16: 33 /r (R362). -/
  | xorR16Rm16 (r : Reg16) (rm : Rm16)
  /-- XOR AL, imm8: 34 ib (R362). -/
  | xorAlImm8 (imm : Byte)
  /-- XOR AX, imm16: 35 iw (R362). -/
  | xorAxImm16 (imm : Word)
  /-- CMP r/m8, r8: 38 /r (R324). -/
  | cmpRm8R8 (rm : Rm8) (r : Reg8)
  /-- CMP r/m16, r16: 39 /r (R324). -/
  | cmpRm16R16 (rm : Rm16) (r : Reg16)
  /-- CMP r8, r/m8: 3A /r (R324). -/
  | cmpR8Rm8 (r : Reg8) (rm : Rm8)
  /-- CMP r16, r/m16: 3B /r (R324). -/
  | cmpR16Rm16 (r : Reg16) (rm : Rm16)
  /-- CMP AL, imm8: 3C ib (R324). -/
  | cmpAlImm8 (imm : Byte)
  /-- CMP AX, imm16: 3D iw (R324). -/
  | cmpAxImm16 (imm : Word)
  /-- PUSH ES: 06 (R385). -/
  | pushEs
  /-- POP ES: 07 (R386). -/
  | popEs
  /-- PUSH CS: 0E (R385). -/
  | pushCs
  /-- PUSH SS: 16 (R385). -/
  | pushSs
  /-- POP SS: 17 (R386). -/
  | popSs
  /-- PUSH DS: 1E (R385). -/
  | pushDs
  /-- POP DS: 1F (R386). -/
  | popDs
  /-- PREFIX ES:: 26 (R131). -/
  | prefixEs
  /-- PREFIX CS:: 2E (R131). -/
  | prefixCs
  /-- PREFIX SS:: 36 (R131). -/
  | prefixSs
  /-- PREFIX DS:: 3E (R131). -/
  | prefixDs
  /-- INC AX: 40 (R325). -/
  | incAx
  /-- INC CX: 41 (R325). -/
  | incCx
  /-- INC DX: 42 (R325). -/
  | incDx
  /-- INC BX: 43 (R325). -/
  | incBx
  /-- INC SP: 44 (R325). -/
  | incSp
  /-- INC BP: 45 (R325). -/
  | incBp
  /-- INC SI: 46 (R325). -/
  | incSi
  /-- INC DI: 47 (R325). -/
  | incDi
  /-- DEC AX: 48 (R326). -/
  | decAx
  /-- DEC CX: 49 (R326). -/
  | decCx
  /-- DEC DX: 4A (R326). -/
  | decDx
  /-- DEC BX: 4B (R326). -/
  | decBx
  /-- DEC SP: 4C (R326). -/
  | decSp
  /-- DEC BP: 4D (R326). -/
  | decBp
  /-- DEC SI: 4E (R326). -/
  | decSi
  /-- DEC DI: 4F (R326). -/
  | decDi
  /-- PUSH AX: 50 (R383). -/
  | pushAx
  /-- PUSH CX: 51 (R383). -/
  | pushCx
  /-- PUSH DX: 52 (R383). -/
  | pushDx
  /-- PUSH BX: 53 (R383). -/
  | pushBx
  /-- PUSH SP: 54 (R383). -/
  | pushSp
  /-- PUSH BP: 55 (R383). -/
  | pushBp
  /-- PUSH SI: 56 (R383). -/
  | pushSi
  /-- PUSH DI: 57 (R383). -/
  | pushDi
  /-- POP AX: 58 (R384). -/
  | popAx
  /-- POP CX: 59 (R384). -/
  | popCx
  /-- POP DX: 5A (R384). -/
  | popDx
  /-- POP BX: 5B (R384). -/
  | popBx
  /-- POP SP: 5C (R384). -/
  | popSp
  /-- POP BP: 5D (R384). -/
  | popBp
  /-- POP SI: 5E (R384). -/
  | popSi
  /-- POP DI: 5F (R384). -/
  | popDi
  /-- JO rel8: 70 rel8 (R403). -/
  | joRel8 (rel : Byte)
  /-- JNO rel8: 71 rel8 (R404). -/
  | jnoRel8 (rel : Byte)
  /-- JB rel8: 72 rel8 (R405). -/
  | jbRel8 (rel : Byte)
  /-- JAE rel8: 73 rel8 (R406). -/
  | jaeRel8 (rel : Byte)
  /-- JE rel8: 74 rel8 (R407). -/
  | jeRel8 (rel : Byte)
  /-- JNE rel8: 75 rel8 (R408). -/
  | jneRel8 (rel : Byte)
  /-- JBE rel8: 76 rel8 (R409). -/
  | jbeRel8 (rel : Byte)
  /-- JA rel8: 77 rel8 (R410). -/
  | jaRel8 (rel : Byte)
  /-- JS rel8: 78 rel8 (R411). -/
  | jsRel8 (rel : Byte)
  /-- JNS rel8: 79 rel8 (R412). -/
  | jnsRel8 (rel : Byte)
  /-- JP rel8: 7A rel8 (R413). -/
  | jpRel8 (rel : Byte)
  /-- JNP rel8: 7B rel8 (R414). -/
  | jnpRel8 (rel : Byte)
  /-- JL rel8: 7C rel8 (R415). -/
  | jlRel8 (rel : Byte)
  /-- JGE rel8: 7D rel8 (R416). -/
  | jgeRel8 (rel : Byte)
  /-- JLE rel8: 7E rel8 (R417). -/
  | jleRel8 (rel : Byte)
  /-- JG rel8: 7F rel8 (R418). -/
  | jgRel8 (rel : Byte)
  /-- ADD r/m8, imm8: 80 /0 ib (R320). -/
  | addRm8Imm8 (rm : Rm8) (imm : Byte)
  /-- OR r/m8, imm8: 80 /1 ib (R361). -/
  | orRm8Imm8 (rm : Rm8) (imm : Byte)
  /-- ADC r/m8, imm8: 80 /2 ib (R321). -/
  | adcRm8Imm8 (rm : Rm8) (imm : Byte)
  /-- SBB r/m8, imm8: 80 /3 ib (R323). -/
  | sbbRm8Imm8 (rm : Rm8) (imm : Byte)
  /-- AND r/m8, imm8: 80 /4 ib (R360). -/
  | andRm8Imm8 (rm : Rm8) (imm : Byte)
  /-- SUB r/m8, imm8: 80 /5 ib (R322). -/
  | subRm8Imm8 (rm : Rm8) (imm : Byte)
  /-- XOR r/m8, imm8: 80 /6 ib (R362). -/
  | xorRm8Imm8 (rm : Rm8) (imm : Byte)
  /-- CMP r/m8, imm8: 80 /7 ib (R324). -/
  | cmpRm8Imm8 (rm : Rm8) (imm : Byte)
  /-- ADD r/m16, imm16: 81 /0 iw (R320). -/
  | addRm16Imm16 (rm : Rm16) (imm : Word)
  /-- OR r/m16, imm16: 81 /1 iw (R361). -/
  | orRm16Imm16 (rm : Rm16) (imm : Word)
  /-- ADC r/m16, imm16: 81 /2 iw (R321). -/
  | adcRm16Imm16 (rm : Rm16) (imm : Word)
  /-- SBB r/m16, imm16: 81 /3 iw (R323). -/
  | sbbRm16Imm16 (rm : Rm16) (imm : Word)
  /-- AND r/m16, imm16: 81 /4 iw (R360). -/
  | andRm16Imm16 (rm : Rm16) (imm : Word)
  /-- SUB r/m16, imm16: 81 /5 iw (R322). -/
  | subRm16Imm16 (rm : Rm16) (imm : Word)
  /-- XOR r/m16, imm16: 81 /6 iw (R362). -/
  | xorRm16Imm16 (rm : Rm16) (imm : Word)
  /-- CMP r/m16, imm16: 81 /7 iw (R324). -/
  | cmpRm16Imm16 (rm : Rm16) (imm : Word)
  /-- ADD r/m16, imm8: 83 /0 ib (R320). -/
  | addRm16Imm8 (rm : Rm16) (imm : Byte)
  /-- OR r/m16, imm8: 83 /1 ib (R361). -/
  | orRm16Imm8 (rm : Rm16) (imm : Byte)
  /-- ADC r/m16, imm8: 83 /2 ib (R321). -/
  | adcRm16Imm8 (rm : Rm16) (imm : Byte)
  /-- SBB r/m16, imm8: 83 /3 ib (R323). -/
  | sbbRm16Imm8 (rm : Rm16) (imm : Byte)
  /-- AND r/m16, imm8: 83 /4 ib (R360). -/
  | andRm16Imm8 (rm : Rm16) (imm : Byte)
  /-- SUB r/m16, imm8: 83 /5 ib (R322). -/
  | subRm16Imm8 (rm : Rm16) (imm : Byte)
  /-- XOR r/m16, imm8: 83 /6 ib (R362). -/
  | xorRm16Imm8 (rm : Rm16) (imm : Byte)
  /-- CMP r/m16, imm8: 83 /7 ib (R324). -/
  | cmpRm16Imm8 (rm : Rm16) (imm : Byte)
  /-- TEST r/m8, r8: 84 /r (R363). -/
  | testRm8R8 (rm : Rm8) (r : Reg8)
  /-- TEST r/m16, r16: 85 /r (R363). -/
  | testRm16R16 (rm : Rm16) (r : Reg16)
  /-- XCHG r/m8, r8: 86 /r (R287). -/
  | xchgRm8R8 (rm : Rm8) (r : Reg8)
  /-- XCHG r/m16, r16: 87 /r (R287). -/
  | xchgRm16R16 (rm : Rm16) (r : Reg16)
  /-- MOV r/m8, r8: 88 /r (R280). -/
  | movRm8R8 (rm : Rm8) (r : Reg8)
  /-- MOV r/m16, r16: 89 /r (R280). -/
  | movRm16R16 (rm : Rm16) (r : Reg16)
  /-- MOV r8, r/m8: 8A /r (R280). -/
  | movR8Rm8 (r : Reg8) (rm : Rm8)
  /-- MOV r16, r/m16: 8B /r (R280). -/
  | movR16Rm16 (r : Reg16) (rm : Rm16)
  /-- MOV r/m16, Sreg: 8C /sr (R283). -/
  | movRm16Sreg (rm : Rm16) (sr : SegReg)
  /-- LEA r16, m: 8D /r, mod != 11 (R289). -/
  | leaR16M (r : Reg16) (m : MemRef)
  /-- MOV ES, r/m16: 8E /0 (R284). -/
  | movEsRm16 (rm : Rm16)
  /-- MOV SS/DS, r/m16: 8E /sr, sr = SS or DS (R284). -/
  | movSsDsRm16 (sr : SegReg) (rm : Rm16)
  /-- POP r/m16: 8F /0 (R387). -/
  | popRm16 (rm : Rm16)
  /-- NOP: 90 (R292). -/
  | nop
  /-- XCHG AX, CX: 91 (R288). -/
  | xchgAxCx
  /-- XCHG AX, DX: 92 (R288). -/
  | xchgAxDx
  /-- XCHG AX, BX: 93 (R288). -/
  | xchgAxBx
  /-- XCHG AX, SP: 94 (R288). -/
  | xchgAxSp
  /-- XCHG AX, BP: 95 (R288). -/
  | xchgAxBp
  /-- XCHG AX, SI: 96 (R288). -/
  | xchgAxSi
  /-- XCHG AX, DI: 97 (R288). -/
  | xchgAxDi
  /-- CBW: 98 (R290). -/
  | cbw
  /-- CWD: 99 (R291). -/
  | cwd
  /-- PUSHF: 9C (R388). -/
  | pushf
  /-- POPF: 9D (R389). -/
  | popf
  /-- SAHF: 9E (R296). -/
  | sahf
  /-- LAHF: 9F (R295). -/
  | lahf
  /-- MOV AL, moffs8: A0 moffs16 (R285). -/
  | movAlMoffs8 (off : Word)
  /-- MOV AX, moffs16: A1 moffs16 (R285). -/
  | movAxMoffs16 (off : Word)
  /-- MOV moffs8, AL: A2 moffs16 (R286). -/
  | movMoffs8Al (off : Word)
  /-- MOV moffs16, AX: A3 moffs16 (R286). -/
  | movMoffs16Ax (off : Word)
  /-- TEST AL, imm8: A8 ib (R363). -/
  | testAlImm8 (imm : Byte)
  /-- TEST AX, imm16: A9 iw (R363). -/
  | testAxImm16 (imm : Word)
  /-- MOV AL, imm8: B0 ib (R281). -/
  | movAlImm8 (imm : Byte)
  /-- MOV CL, imm8: B1 ib (R281). -/
  | movClImm8 (imm : Byte)
  /-- MOV DL, imm8: B2 ib (R281). -/
  | movDlImm8 (imm : Byte)
  /-- MOV BL, imm8: B3 ib (R281). -/
  | movBlImm8 (imm : Byte)
  /-- MOV AH, imm8: B4 ib (R281). -/
  | movAhImm8 (imm : Byte)
  /-- MOV CH, imm8: B5 ib (R281). -/
  | movChImm8 (imm : Byte)
  /-- MOV DH, imm8: B6 ib (R281). -/
  | movDhImm8 (imm : Byte)
  /-- MOV BH, imm8: B7 ib (R281). -/
  | movBhImm8 (imm : Byte)
  /-- MOV AX, imm16: B8 iw (R281). -/
  | movAxImm16 (imm : Word)
  /-- MOV CX, imm16: B9 iw (R281). -/
  | movCxImm16 (imm : Word)
  /-- MOV DX, imm16: BA iw (R281). -/
  | movDxImm16 (imm : Word)
  /-- MOV BX, imm16: BB iw (R281). -/
  | movBxImm16 (imm : Word)
  /-- MOV SP, imm16: BC iw (R281). -/
  | movSpImm16 (imm : Word)
  /-- MOV BP, imm16: BD iw (R281). -/
  | movBpImm16 (imm : Word)
  /-- MOV SI, imm16: BE iw (R281). -/
  | movSiImm16 (imm : Word)
  /-- MOV DI, imm16: BF iw (R281). -/
  | movDiImm16 (imm : Word)
  /-- RET imm16: C2 iw (R426). -/
  | retImm16 (imm : Word)
  /-- RET: C3 (R425). -/
  | ret
  /-- MOV r/m8, imm8: C6 /0 ib (R282). -/
  | movRm8Imm8 (rm : Rm8) (imm : Byte)
  /-- MOV r/m16, imm16: C7 /0 iw (R282). -/
  | movRm16Imm16 (rm : Rm16) (imm : Word)
  /-- LOOPNE rel8: E0 rel8 (R421). -/
  | loopneRel8 (rel : Byte)
  /-- LOOPE rel8: E1 rel8 (R420). -/
  | loopeRel8 (rel : Byte)
  /-- LOOP rel8: E2 rel8 (R419). -/
  | loopRel8 (rel : Byte)
  /-- JCXZ rel8: E3 rel8 (R422). -/
  | jcxzRel8 (rel : Byte)
  /-- CALL rel16: E8 rel16 (R423). -/
  | callRel16 (rel : Word)
  /-- JMP rel16: E9 rel16 (R400). -/
  | jmpRel16 (rel : Word)
  /-- JMP rel8: EB rel8 (R400). -/
  | jmpRel8 (rel : Byte)
  /-- HLT: F4 (R450). -/
  | hlt
  /-- CMC: F5 (R453). -/
  | cmc
  /-- CLC: F8 (R451). -/
  | clc
  /-- STC: F9 (R452). -/
  | stc
  /-- CLI: FA (R454). -/
  | cli
  /-- STI: FB (R455). -/
  | sti
  /-- CLD: FC (R456). -/
  | cld
  /-- STD: FD (R457). -/
  | std
  /-- TEST r/m8, imm8: F6 /0 ib (R363). -/
  | testRm8Imm8 (rm : Rm8) (imm : Byte)
  /-- TEST r/m16, imm16: F7 /0 iw (R363). -/
  | testRm16Imm16 (rm : Rm16) (imm : Word)
  /-- NOT r/m8: F6 /2 (R364). -/
  | notRm8 (rm : Rm8)
  /-- NOT r/m16: F7 /2 (R364). -/
  | notRm16 (rm : Rm16)
  /-- NEG r/m8: F6 /3 (R327). -/
  | negRm8 (rm : Rm8)
  /-- NEG r/m16: F7 /3 (R327). -/
  | negRm16 (rm : Rm16)
  /-- MUL r/m8: F6 /4 (R328). -/
  | mulRm8 (rm : Rm8)
  /-- MUL r/m16: F7 /4 (R328). -/
  | mulRm16 (rm : Rm16)
  /-- IMUL r/m8: F6 /5 (R329). -/
  | imulRm8 (rm : Rm8)
  /-- IMUL r/m16: F7 /5 (R329). -/
  | imulRm16 (rm : Rm16)
  /-- DIV r/m8: F6 /6 (R330). -/
  | divRm8 (rm : Rm8)
  /-- DIV r/m16: F7 /6 (R330). -/
  | divRm16 (rm : Rm16)
  /-- IDIV r/m8: F6 /7 (R331). -/
  | idivRm8 (rm : Rm8)
  /-- IDIV r/m16: F7 /7 (R331). -/
  | idivRm16 (rm : Rm16)
  /-- INC r/m8: FE /0 (R325). -/
  | incRm8 (rm : Rm8)
  /-- DEC r/m8: FE /1 (R326). -/
  | decRm8 (rm : Rm8)
  /-- INC r/m16: FF /0 (R325). -/
  | incRm16 (rm : Rm16)
  /-- DEC r/m16: FF /1 (R326). -/
  | decRm16 (rm : Rm16)
  /-- CALL r/m16: FF /2 (R424). -/
  | callRm16 (rm : Rm16)
  /-- JMP r/m16: FF /4 (R402). -/
  | jmpRm16 (rm : Rm16)
  /-- PUSH r/m16: FF /6 (R383). -/
  | pushRm16 (rm : Rm16)
  /-- INVALID: every encoding R166 rejects (R166). -/
  | invalid (opc : Byte) (modrm : Option Byte)
  deriving DecidableEq, Repr

end Sys2Proof
end

