-- ==== Sys2Proof/WellFormed.lean ====
section
/-! DEFINITION. Which terms of `Instr` are instructions of the block: those some byte sequence encodes. The list of
rejected encodings (30_encoding.md R165, R166) is written here from the spec's lists, apart from the decoder's map. -/

namespace Sys2Proof

/-- The opcode bytes marked `I` in R165, as 90_conflicts.md C8 lists them: 0F, 27, 2F, 37, 3F, 60-6F, 82, 9A, 9B, A4-A7,
AA-AF, C0, C1, C4, C5, C8-CF, D0-DF, E4-E7, EA, EC-EF and F0-F3. -/
def invalidOpcode (b : Byte) : Bool :=
  let n := b.toNat
  [0x0F, 0x27, 0x2F, 0x37, 0x3F, 0x82, 0x9A, 0x9B, 0xC0, 0xC1, 0xC4, 0xC5, 0xEA].contains n ||
    [(0x60, 0x6F), (0xA4, 0xA7), (0xAA, 0xAF), (0xC8, 0xCF), (0xD0, 0xDF), (0xE4, 0xE7), (0xEC, 0xEF), (0xF0, 0xF3)].any
      fun r => r.1 ≤ n && n ≤ r.2

/-- The ModRM bytes rejected for an opcode that has one (R166 (b) and (c)): 8C reg 4-7; 8E reg 1 and 4-7; 8F reg 1-7;
C6 and C7 reg 1-7; F6 and F7 reg 1; FE reg 2-7; FF reg 3, 5 and 7; 8D with mod = 11. -/
def forbiddenModrm (opc modrm : Byte) : Bool :=
  let reg := modrm.toNat / 8 % 8
  let mod := modrm.toNat / 64
  match opc.toNat with
  | 0x8C => 4 ≤ reg
  | 0x8D => mod == 3
  | 0x8E => reg == 1 || 4 ≤ reg
  | 0x8F => reg != 0
  | 0xC6 => reg != 0
  | 0xC7 => reg != 0
  | 0xF6 => reg == 1
  | 0xF7 => reg == 1
  | 0xFE => 2 ≤ reg
  | 0xFF => reg == 3 || reg == 5 || reg == 7
  | _ => false

/-- An encoding that `invalid` may stand for: an `I` opcode byte alone, or an opcode with the ModRM byte that rules it
out (R166, R167). -/
def invalidEncoding (opc : Byte) : Option Byte → Bool
  | none => invalidOpcode opc
  | some m => forbiddenModrm opc m

/-- Mod 00 with rm 110 is the direct address, so `BP` alone has no encoding (30_encoding.md R123, R125). -/
def MemRef.wf : MemRef → Bool
  | .base b => b != .bp
  | .direct _ => true
  | .disp8 _ _ => true
  | .disp16 _ _ => true

def Rm.wf {ρ : Type} : Rm ρ → Bool
  | .reg _ => true
  | .mem m => m.wf

/-- The terms that some byte sequence encodes. -/
def Instr.wf : Instr → Bool
  | .addRm8R8 rm _ => rm.wf
  | .addRm16R16 rm _ => rm.wf
  | .addR8Rm8 _ rm => rm.wf
  | .addR16Rm16 _ rm => rm.wf
  | .addAlImm8 _ => true
  | .addAxImm16 _ => true
  | .orRm8R8 rm _ => rm.wf
  | .orRm16R16 rm _ => rm.wf
  | .orR8Rm8 _ rm => rm.wf
  | .orR16Rm16 _ rm => rm.wf
  | .orAlImm8 _ => true
  | .orAxImm16 _ => true
  | .adcRm8R8 rm _ => rm.wf
  | .adcRm16R16 rm _ => rm.wf
  | .adcR8Rm8 _ rm => rm.wf
  | .adcR16Rm16 _ rm => rm.wf
  | .adcAlImm8 _ => true
  | .adcAxImm16 _ => true
  | .sbbRm8R8 rm _ => rm.wf
  | .sbbRm16R16 rm _ => rm.wf
  | .sbbR8Rm8 _ rm => rm.wf
  | .sbbR16Rm16 _ rm => rm.wf
  | .sbbAlImm8 _ => true
  | .sbbAxImm16 _ => true
  | .andRm8R8 rm _ => rm.wf
  | .andRm16R16 rm _ => rm.wf
  | .andR8Rm8 _ rm => rm.wf
  | .andR16Rm16 _ rm => rm.wf
  | .andAlImm8 _ => true
  | .andAxImm16 _ => true
  | .subRm8R8 rm _ => rm.wf
  | .subRm16R16 rm _ => rm.wf
  | .subR8Rm8 _ rm => rm.wf
  | .subR16Rm16 _ rm => rm.wf
  | .subAlImm8 _ => true
  | .subAxImm16 _ => true
  | .xorRm8R8 rm _ => rm.wf
  | .xorRm16R16 rm _ => rm.wf
  | .xorR8Rm8 _ rm => rm.wf
  | .xorR16Rm16 _ rm => rm.wf
  | .xorAlImm8 _ => true
  | .xorAxImm16 _ => true
  | .cmpRm8R8 rm _ => rm.wf
  | .cmpRm16R16 rm _ => rm.wf
  | .cmpR8Rm8 _ rm => rm.wf
  | .cmpR16Rm16 _ rm => rm.wf
  | .cmpAlImm8 _ => true
  | .cmpAxImm16 _ => true
  | .pushEs => true
  | .popEs => true
  | .pushCs => true
  | .pushSs => true
  | .popSs => true
  | .pushDs => true
  | .popDs => true
  | .prefixEs => true
  | .prefixCs => true
  | .prefixSs => true
  | .prefixDs => true
  | .incAx => true
  | .incCx => true
  | .incDx => true
  | .incBx => true
  | .incSp => true
  | .incBp => true
  | .incSi => true
  | .incDi => true
  | .decAx => true
  | .decCx => true
  | .decDx => true
  | .decBx => true
  | .decSp => true
  | .decBp => true
  | .decSi => true
  | .decDi => true
  | .pushAx => true
  | .pushCx => true
  | .pushDx => true
  | .pushBx => true
  | .pushSp => true
  | .pushBp => true
  | .pushSi => true
  | .pushDi => true
  | .popAx => true
  | .popCx => true
  | .popDx => true
  | .popBx => true
  | .popSp => true
  | .popBp => true
  | .popSi => true
  | .popDi => true
  | .joRel8 _ => true
  | .jnoRel8 _ => true
  | .jbRel8 _ => true
  | .jaeRel8 _ => true
  | .jeRel8 _ => true
  | .jneRel8 _ => true
  | .jbeRel8 _ => true
  | .jaRel8 _ => true
  | .jsRel8 _ => true
  | .jnsRel8 _ => true
  | .jpRel8 _ => true
  | .jnpRel8 _ => true
  | .jlRel8 _ => true
  | .jgeRel8 _ => true
  | .jleRel8 _ => true
  | .jgRel8 _ => true
  | .addRm8Imm8 rm _ => rm.wf
  | .orRm8Imm8 rm _ => rm.wf
  | .adcRm8Imm8 rm _ => rm.wf
  | .sbbRm8Imm8 rm _ => rm.wf
  | .andRm8Imm8 rm _ => rm.wf
  | .subRm8Imm8 rm _ => rm.wf
  | .xorRm8Imm8 rm _ => rm.wf
  | .cmpRm8Imm8 rm _ => rm.wf
  | .addRm16Imm16 rm _ => rm.wf
  | .orRm16Imm16 rm _ => rm.wf
  | .adcRm16Imm16 rm _ => rm.wf
  | .sbbRm16Imm16 rm _ => rm.wf
  | .andRm16Imm16 rm _ => rm.wf
  | .subRm16Imm16 rm _ => rm.wf
  | .xorRm16Imm16 rm _ => rm.wf
  | .cmpRm16Imm16 rm _ => rm.wf
  | .addRm16Imm8 rm _ => rm.wf
  | .orRm16Imm8 rm _ => rm.wf
  | .adcRm16Imm8 rm _ => rm.wf
  | .sbbRm16Imm8 rm _ => rm.wf
  | .andRm16Imm8 rm _ => rm.wf
  | .subRm16Imm8 rm _ => rm.wf
  | .xorRm16Imm8 rm _ => rm.wf
  | .cmpRm16Imm8 rm _ => rm.wf
  | .testRm8R8 rm _ => rm.wf
  | .testRm16R16 rm _ => rm.wf
  | .xchgRm8R8 rm _ => rm.wf
  | .xchgRm16R16 rm _ => rm.wf
  | .movRm8R8 rm _ => rm.wf
  | .movRm16R16 rm _ => rm.wf
  | .movR8Rm8 _ rm => rm.wf
  | .movR16Rm16 _ rm => rm.wf
  | .movRm16Sreg rm _ => rm.wf
  | .leaR16M _ m => m.wf
  | .movEsRm16 rm => rm.wf
  | .movSsDsRm16 sr rm => (sr == .ss || sr == .ds) && rm.wf
  | .popRm16 rm => rm.wf
  | .nop => true
  | .xchgAxCx => true
  | .xchgAxDx => true
  | .xchgAxBx => true
  | .xchgAxSp => true
  | .xchgAxBp => true
  | .xchgAxSi => true
  | .xchgAxDi => true
  | .cbw => true
  | .cwd => true
  | .pushf => true
  | .popf => true
  | .sahf => true
  | .lahf => true
  | .movAlMoffs8 _ => true
  | .movAxMoffs16 _ => true
  | .movMoffs8Al _ => true
  | .movMoffs16Ax _ => true
  | .testAlImm8 _ => true
  | .testAxImm16 _ => true
  | .movAlImm8 _ => true
  | .movClImm8 _ => true
  | .movDlImm8 _ => true
  | .movBlImm8 _ => true
  | .movAhImm8 _ => true
  | .movChImm8 _ => true
  | .movDhImm8 _ => true
  | .movBhImm8 _ => true
  | .movAxImm16 _ => true
  | .movCxImm16 _ => true
  | .movDxImm16 _ => true
  | .movBxImm16 _ => true
  | .movSpImm16 _ => true
  | .movBpImm16 _ => true
  | .movSiImm16 _ => true
  | .movDiImm16 _ => true
  | .retImm16 _ => true
  | .ret => true
  | .movRm8Imm8 rm _ => rm.wf
  | .movRm16Imm16 rm _ => rm.wf
  | .loopneRel8 _ => true
  | .loopeRel8 _ => true
  | .loopRel8 _ => true
  | .jcxzRel8 _ => true
  | .callRel16 _ => true
  | .jmpRel16 _ => true
  | .jmpRel8 _ => true
  | .hlt => true
  | .cmc => true
  | .clc => true
  | .stc => true
  | .cli => true
  | .sti => true
  | .cld => true
  | .std => true
  | .testRm8Imm8 rm _ => rm.wf
  | .testRm16Imm16 rm _ => rm.wf
  | .notRm8 rm => rm.wf
  | .notRm16 rm => rm.wf
  | .negRm8 rm => rm.wf
  | .negRm16 rm => rm.wf
  | .mulRm8 rm => rm.wf
  | .mulRm16 rm => rm.wf
  | .imulRm8 rm => rm.wf
  | .imulRm16 rm => rm.wf
  | .divRm8 rm => rm.wf
  | .divRm16 rm => rm.wf
  | .idivRm8 rm => rm.wf
  | .idivRm16 rm => rm.wf
  | .incRm8 rm => rm.wf
  | .decRm8 rm => rm.wf
  | .incRm16 rm => rm.wf
  | .decRm16 rm => rm.wf
  | .callRm16 rm => rm.wf
  | .jmpRm16 rm => rm.wf
  | .pushRm16 rm => rm.wf
  | .invalid opc modrm => invalidEncoding opc modrm

end Sys2Proof
end

