-- ==== Sys2Proof/Decode.lean ====
section
/-! DEFINITION. The byte decoder and, after it, the encoder (30_encoding.md R120 to R151, R165 to R167). The decoder
reads a list of bytes and answers the instruction with the bytes that follow it, or that the bytes end before it does. An
encoding R166 rejects decodes to `Instr.invalid`, whose meaning raises InvalidOpcode. -/

namespace Sys2Proof

/-! ## Bytes and words -/

/-- `b1 << 8 | b0` (R129): the first byte is the low one. -/
def wordOf (b0 b1 : Byte) : Word := b1 ++ b0

/-- Bits 7:0. -/
def loByte (w : Word) : Byte := w.extractLsb' 0 8

/-- Bits 15:8. -/
def hiByte (w : Word) : Byte := w.extractLsb' 8 8

/-- `sext_16` of a byte (00_scope.md R7). -/
def sext16 (b : Byte) : Word := b.signExtend 16

/-- A word as the two bytes of an instruction field, low byte first (20_memory.md R86). -/
def wordBytes (w : Word) : List Byte := [loByte w, hiByte w]

/-! ## Register numbers (10_state.md R31, R32, R36) -/

def Reg16.ofNum (n : BitVec 3) : Reg16 :=
  match n.toNat with
  | 0 => .ax | 1 => .cx | 2 => .dx | 3 => .bx | 4 => .sp | 5 => .bp | 6 => .si | _ => .di

def Reg16.num : Reg16 → BitVec 3
  | .ax => 0 | .cx => 1 | .dx => 2 | .bx => 3 | .sp => 4 | .bp => 5 | .si => 6 | .di => 7

def Reg8.ofNum (n : BitVec 3) : Reg8 :=
  match n.toNat with
  | 0 => .al | 1 => .cl | 2 => .dl | 3 => .bl | 4 => .ah | 5 => .ch | 6 => .dh | _ => .bh

def Reg8.num : Reg8 → BitVec 3
  | .al => 0 | .cl => 1 | .dl => 2 | .bl => 3 | .ah => 4 | .ch => 5 | .dh => 6 | .bh => 7

/-- The segment register a three-bit reg field names; 4 to 7 name none. -/
def SegReg.ofNum3? (n : BitVec 3) : Option SegReg :=
  match n.toNat with
  | 0 => some .es | 1 => some .cs | 2 => some .ss | 3 => some .ds | _ => none

def SegReg.num3 : SegReg → BitVec 3
  | .es => 0 | .cs => 1 | .ss => 2 | .ds => 3

/-- The rm field's register sum (R125). -/
def EaBase.ofNum (n : BitVec 3) : EaBase :=
  match n.toNat with
  | 0 => .bxSi | 1 => .bxDi | 2 => .bpSi | 3 => .bpDi | 4 => .si | 5 => .di | 6 => .bp | _ => .bx

def EaBase.num : EaBase → BitVec 3
  | .bxSi => 0 | .bxDi => 1 | .bpSi => 2 | .bpDi => 3 | .si => 4 | .di => 5 | .bp => 6 | .bx => 7

/-! ## The ModRM byte and its displacement (R122, R123) -/

structure ModRM where
  mod : BitVec 2
  reg : BitVec 3
  rm : BitVec 3
  deriving DecidableEq, Repr

def ModRM.ofByte (b : Byte) : ModRM :=
  { mod := b.extractLsb' 6 2, reg := b.extractLsb' 3 3, rm := b.extractLsb' 0 3 }

def ModRM.toByte (m : ModRM) : Byte := m.mod ++ m.reg ++ m.rm

/-- An r/m operand before the width of its register is known. -/
abbrev RawEa := Rm (BitVec 3)

def RawEa.rm8 : RawEa → Rm8
  | .reg n => .reg (Reg8.ofNum n)
  | .mem m => .mem m

def RawEa.rm16 : RawEa → Rm16
  | .reg n => .reg (Reg16.ofNum n)
  | .mem m => .mem m

/-- The r/m operand that a ModRM byte and the displacement bytes after it name (R123); `none` if the bytes end first. -/
def readEa (m : ModRM) (bs : List Byte) : Option (RawEa × List Byte) :=
  match m.mod.toNat with
  | 0 =>
    if m.rm = 6 then
      match bs with
      | b0 :: b1 :: rest => some (.mem (.direct (wordOf b0 b1)), rest)
      | _ => none
    else some (.mem (.base (EaBase.ofNum m.rm)), bs)
  | 1 =>
    match bs with
    | b0 :: rest => some (.mem (.disp8 (EaBase.ofNum m.rm) b0), rest)
    | [] => none
  | 2 =>
    match bs with
    | b0 :: b1 :: rest => some (.mem (.disp16 (EaBase.ofNum m.rm) (wordOf b0 b1)), rest)
    | _ => none
  | _ => some (.reg m.rm, bs)

/-! ## The opcode map -/

/-- What the ModRM byte of an opcode decides (R167): the encoding is forbidden, or these operands follow. `mem` is LEA's
form, which takes no register as its r/m operand. -/
inductive ModEntry where
  | forbidden
  | plain (f : RawEa → Instr)
  | mem (f : MemRef → Instr)
  | imm8 (f : RawEa → Byte → Instr)
  | imm16 (f : RawEa → Word → Instr)

/-- What an opcode byte decides (R130): it is invalid, it is the whole instruction, one byte or two bytes follow it, or a
ModRM byte does. -/
inductive Entry where
  | invalid
  | op (i : Instr)
  | imm8 (f : Byte → Instr)
  | imm16 (f : Word → Instr)
  | modrm (f : ModRM → ModEntry)

def rmReg8 (f : Rm8 → Reg8 → Instr) (m : ModRM) : ModEntry := .plain fun ea => f ea.rm8 (Reg8.ofNum m.reg)
def regRm8 (f : Reg8 → Rm8 → Instr) (m : ModRM) : ModEntry := .plain fun ea => f (Reg8.ofNum m.reg) ea.rm8
def rmReg16 (f : Rm16 → Reg16 → Instr) (m : ModRM) : ModEntry := .plain fun ea => f ea.rm16 (Reg16.ofNum m.reg)
def regRm16 (f : Reg16 → Rm16 → Instr) (m : ModRM) : ModEntry := .plain fun ea => f (Reg16.ofNum m.reg) ea.rm16

/-- Group 1, byte (R144). -/
def group80 (m : ModRM) : ModEntry :=
  match m.reg.toNat with
  | 0 => .imm8 fun ea v => .addRm8Imm8 ea.rm8 v
  | 1 => .imm8 fun ea v => .orRm8Imm8 ea.rm8 v
  | 2 => .imm8 fun ea v => .adcRm8Imm8 ea.rm8 v
  | 3 => .imm8 fun ea v => .sbbRm8Imm8 ea.rm8 v
  | 4 => .imm8 fun ea v => .andRm8Imm8 ea.rm8 v
  | 5 => .imm8 fun ea v => .subRm8Imm8 ea.rm8 v
  | 6 => .imm8 fun ea v => .xorRm8Imm8 ea.rm8 v
  | _ => .imm8 fun ea v => .cmpRm8Imm8 ea.rm8 v

/-- Group 1, word with imm16 (R144). -/
def group81 (m : ModRM) : ModEntry :=
  match m.reg.toNat with
  | 0 => .imm16 fun ea v => .addRm16Imm16 ea.rm16 v
  | 1 => .imm16 fun ea v => .orRm16Imm16 ea.rm16 v
  | 2 => .imm16 fun ea v => .adcRm16Imm16 ea.rm16 v
  | 3 => .imm16 fun ea v => .sbbRm16Imm16 ea.rm16 v
  | 4 => .imm16 fun ea v => .andRm16Imm16 ea.rm16 v
  | 5 => .imm16 fun ea v => .subRm16Imm16 ea.rm16 v
  | 6 => .imm16 fun ea v => .xorRm16Imm16 ea.rm16 v
  | _ => .imm16 fun ea v => .cmpRm16Imm16 ea.rm16 v

/-- Group 1, word with the sign-extended imm8 (R144). -/
def group83 (m : ModRM) : ModEntry :=
  match m.reg.toNat with
  | 0 => .imm8 fun ea v => .addRm16Imm8 ea.rm16 v
  | 1 => .imm8 fun ea v => .orRm16Imm8 ea.rm16 v
  | 2 => .imm8 fun ea v => .adcRm16Imm8 ea.rm16 v
  | 3 => .imm8 fun ea v => .sbbRm16Imm8 ea.rm16 v
  | 4 => .imm8 fun ea v => .andRm16Imm8 ea.rm16 v
  | 5 => .imm8 fun ea v => .subRm16Imm8 ea.rm16 v
  | 6 => .imm8 fun ea v => .xorRm16Imm8 ea.rm16 v
  | _ => .imm8 fun ea v => .cmpRm16Imm8 ea.rm16 v

/-- MOV r/m16, Sreg: reg 4 to 7 are invalid (R144). -/
def group8C (m : ModRM) : ModEntry :=
  match SegReg.ofNum3? m.reg with
  | some sr => .plain fun ea => .movRm16Sreg ea.rm16 sr
  | none => .forbidden

/-- LEA: mod 11 is invalid (R144), which `decodeModrm` checks for the `mem` form. -/
def group8D (m : ModRM) : ModEntry := .mem fun ref => .leaR16M (Reg16.ofNum m.reg) ref

/-- MOV Sreg, r/m16: reg 1 (CS) and reg 4 to 7 are invalid (R144). -/
def group8E (m : ModRM) : ModEntry :=
  match m.reg.toNat with
  | 0 => .plain fun ea => .movEsRm16 ea.rm16
  | 2 => .plain fun ea => .movSsDsRm16 .ss ea.rm16
  | 3 => .plain fun ea => .movSsDsRm16 .ds ea.rm16
  | _ => .forbidden

/-- POP r/m16: reg 1 to 7 are invalid (R144). -/
def group8F (m : ModRM) : ModEntry :=
  match m.reg.toNat with
  | 0 => .plain fun ea => .popRm16 ea.rm16
  | _ => .forbidden

/-- MOV r/m8, imm8: reg 1 to 7 are invalid (R148). -/
def groupC6 (m : ModRM) : ModEntry :=
  match m.reg.toNat with
  | 0 => .imm8 fun ea v => .movRm8Imm8 ea.rm8 v
  | _ => .forbidden

/-- MOV r/m16, imm16: reg 1 to 7 are invalid (R148). -/
def groupC7 (m : ModRM) : ModEntry :=
  match m.reg.toNat with
  | 0 => .imm16 fun ea v => .movRm16Imm16 ea.rm16 v
  | _ => .forbidden

/-- Group 3, byte: reg 1 is invalid (R151). -/
def groupF6 (m : ModRM) : ModEntry :=
  match m.reg.toNat with
  | 0 => .imm8 fun ea v => .testRm8Imm8 ea.rm8 v
  | 2 => .plain fun ea => .notRm8 ea.rm8
  | 3 => .plain fun ea => .negRm8 ea.rm8
  | 4 => .plain fun ea => .mulRm8 ea.rm8
  | 5 => .plain fun ea => .imulRm8 ea.rm8
  | 6 => .plain fun ea => .divRm8 ea.rm8
  | 7 => .plain fun ea => .idivRm8 ea.rm8
  | _ => .forbidden

/-- Group 3, word: reg 1 is invalid (R151). -/
def groupF7 (m : ModRM) : ModEntry :=
  match m.reg.toNat with
  | 0 => .imm16 fun ea v => .testRm16Imm16 ea.rm16 v
  | 2 => .plain fun ea => .notRm16 ea.rm16
  | 3 => .plain fun ea => .negRm16 ea.rm16
  | 4 => .plain fun ea => .mulRm16 ea.rm16
  | 5 => .plain fun ea => .imulRm16 ea.rm16
  | 6 => .plain fun ea => .divRm16 ea.rm16
  | 7 => .plain fun ea => .idivRm16 ea.rm16
  | _ => .forbidden

/-- Group 4: reg 2 to 7 are invalid (R151). -/
def groupFE (m : ModRM) : ModEntry :=
  match m.reg.toNat with
  | 0 => .plain fun ea => .incRm8 ea.rm8
  | 1 => .plain fun ea => .decRm8 ea.rm8
  | _ => .forbidden

/-- Group 5: reg 3, 5 and 7 are invalid (R151). -/
def groupFF (m : ModRM) : ModEntry :=
  match m.reg.toNat with
  | 0 => .plain fun ea => .incRm16 ea.rm16
  | 1 => .plain fun ea => .decRm16 ea.rm16
  | 2 => .plain fun ea => .callRm16 ea.rm16
  | 4 => .plain fun ea => .jmpRm16 ea.rm16
  | 6 => .plain fun ea => .pushRm16 ea.rm16
  | _ => .forbidden

/-- Row 00-0F of the opcode map, by the low four bits (R140, R165). -/
def opcodeRow0 : Nat → Entry
  | 0x0 => .modrm (rmReg8 .addRm8R8)
  | 0x1 => .modrm (rmReg16 .addRm16R16)
  | 0x2 => .modrm (regRm8 .addR8Rm8)
  | 0x3 => .modrm (regRm16 .addR16Rm16)
  | 0x4 => .imm8 .addAlImm8
  | 0x5 => .imm16 .addAxImm16
  | 0x6 => .op .pushEs
  | 0x7 => .op .popEs
  | 0x8 => .modrm (rmReg8 .orRm8R8)
  | 0x9 => .modrm (rmReg16 .orRm16R16)
  | 0xA => .modrm (regRm8 .orR8Rm8)
  | 0xB => .modrm (regRm16 .orR16Rm16)
  | 0xC => .imm8 .orAlImm8
  | 0xD => .imm16 .orAxImm16
  | 0xE => .op .pushCs
  | _ => .invalid

/-- Row 10-1F of the opcode map, by the low four bits (R140, R165). -/
def opcodeRow1 : Nat → Entry
  | 0x0 => .modrm (rmReg8 .adcRm8R8)
  | 0x1 => .modrm (rmReg16 .adcRm16R16)
  | 0x2 => .modrm (regRm8 .adcR8Rm8)
  | 0x3 => .modrm (regRm16 .adcR16Rm16)
  | 0x4 => .imm8 .adcAlImm8
  | 0x5 => .imm16 .adcAxImm16
  | 0x6 => .op .pushSs
  | 0x7 => .op .popSs
  | 0x8 => .modrm (rmReg8 .sbbRm8R8)
  | 0x9 => .modrm (rmReg16 .sbbRm16R16)
  | 0xA => .modrm (regRm8 .sbbR8Rm8)
  | 0xB => .modrm (regRm16 .sbbR16Rm16)
  | 0xC => .imm8 .sbbAlImm8
  | 0xD => .imm16 .sbbAxImm16
  | 0xE => .op .pushDs
  | _ => .op .popDs

/-- Row 20-2F of the opcode map, by the low four bits (R140, R165). -/
def opcodeRow2 : Nat → Entry
  | 0x0 => .modrm (rmReg8 .andRm8R8)
  | 0x1 => .modrm (rmReg16 .andRm16R16)
  | 0x2 => .modrm (regRm8 .andR8Rm8)
  | 0x3 => .modrm (regRm16 .andR16Rm16)
  | 0x4 => .imm8 .andAlImm8
  | 0x5 => .imm16 .andAxImm16
  | 0x6 => .op .prefixEs
  | 0x8 => .modrm (rmReg8 .subRm8R8)
  | 0x9 => .modrm (rmReg16 .subRm16R16)
  | 0xA => .modrm (regRm8 .subR8Rm8)
  | 0xB => .modrm (regRm16 .subR16Rm16)
  | 0xC => .imm8 .subAlImm8
  | 0xD => .imm16 .subAxImm16
  | 0xE => .op .prefixCs
  | _ => .invalid

/-- Row 30-3F of the opcode map, by the low four bits (R140, R165). -/
def opcodeRow3 : Nat → Entry
  | 0x0 => .modrm (rmReg8 .xorRm8R8)
  | 0x1 => .modrm (rmReg16 .xorRm16R16)
  | 0x2 => .modrm (regRm8 .xorR8Rm8)
  | 0x3 => .modrm (regRm16 .xorR16Rm16)
  | 0x4 => .imm8 .xorAlImm8
  | 0x5 => .imm16 .xorAxImm16
  | 0x6 => .op .prefixSs
  | 0x8 => .modrm (rmReg8 .cmpRm8R8)
  | 0x9 => .modrm (rmReg16 .cmpRm16R16)
  | 0xA => .modrm (regRm8 .cmpR8Rm8)
  | 0xB => .modrm (regRm16 .cmpR16Rm16)
  | 0xC => .imm8 .cmpAlImm8
  | 0xD => .imm16 .cmpAxImm16
  | 0xE => .op .prefixDs
  | _ => .invalid

/-- Row 40-4F of the opcode map, by the low four bits (R141, R165). -/
def opcodeRow4 : Nat → Entry
  | 0x0 => .op .incAx
  | 0x1 => .op .incCx
  | 0x2 => .op .incDx
  | 0x3 => .op .incBx
  | 0x4 => .op .incSp
  | 0x5 => .op .incBp
  | 0x6 => .op .incSi
  | 0x7 => .op .incDi
  | 0x8 => .op .decAx
  | 0x9 => .op .decCx
  | 0xA => .op .decDx
  | 0xB => .op .decBx
  | 0xC => .op .decSp
  | 0xD => .op .decBp
  | 0xE => .op .decSi
  | _ => .op .decDi

/-- Row 50-5F of the opcode map, by the low four bits (R141, R165). -/
def opcodeRow5 : Nat → Entry
  | 0x0 => .op .pushAx
  | 0x1 => .op .pushCx
  | 0x2 => .op .pushDx
  | 0x3 => .op .pushBx
  | 0x4 => .op .pushSp
  | 0x5 => .op .pushBp
  | 0x6 => .op .pushSi
  | 0x7 => .op .pushDi
  | 0x8 => .op .popAx
  | 0x9 => .op .popCx
  | 0xA => .op .popDx
  | 0xB => .op .popBx
  | 0xC => .op .popSp
  | 0xD => .op .popBp
  | 0xE => .op .popSi
  | _ => .op .popDi

/-- Row 60-6F of the opcode map (R142): InvalidOpcode. -/
def opcodeRow6 : Nat → Entry
  | _ => .invalid

/-- Row 70-7F of the opcode map, by the low four bits (R143, R165). -/
def opcodeRow7 : Nat → Entry
  | 0x0 => .imm8 .joRel8
  | 0x1 => .imm8 .jnoRel8
  | 0x2 => .imm8 .jbRel8
  | 0x3 => .imm8 .jaeRel8
  | 0x4 => .imm8 .jeRel8
  | 0x5 => .imm8 .jneRel8
  | 0x6 => .imm8 .jbeRel8
  | 0x7 => .imm8 .jaRel8
  | 0x8 => .imm8 .jsRel8
  | 0x9 => .imm8 .jnsRel8
  | 0xA => .imm8 .jpRel8
  | 0xB => .imm8 .jnpRel8
  | 0xC => .imm8 .jlRel8
  | 0xD => .imm8 .jgeRel8
  | 0xE => .imm8 .jleRel8
  | _ => .imm8 .jgRel8

/-- Row 80-8F of the opcode map, by the low four bits (R144, R165). -/
def opcodeRow8 : Nat → Entry
  | 0x0 => .modrm group80
  | 0x1 => .modrm group81
  | 0x3 => .modrm group83
  | 0x4 => .modrm (rmReg8 .testRm8R8)
  | 0x5 => .modrm (rmReg16 .testRm16R16)
  | 0x6 => .modrm (rmReg8 .xchgRm8R8)
  | 0x7 => .modrm (rmReg16 .xchgRm16R16)
  | 0x8 => .modrm (rmReg8 .movRm8R8)
  | 0x9 => .modrm (rmReg16 .movRm16R16)
  | 0xA => .modrm (regRm8 .movR8Rm8)
  | 0xB => .modrm (regRm16 .movR16Rm16)
  | 0xC => .modrm group8C
  | 0xD => .modrm group8D
  | 0xE => .modrm group8E
  | 0xF => .modrm group8F
  | _ => .invalid

/-- Row 90-9F of the opcode map, by the low four bits (R145, R165). -/
def opcodeRow9 : Nat → Entry
  | 0x0 => .op .nop
  | 0x1 => .op .xchgAxCx
  | 0x2 => .op .xchgAxDx
  | 0x3 => .op .xchgAxBx
  | 0x4 => .op .xchgAxSp
  | 0x5 => .op .xchgAxBp
  | 0x6 => .op .xchgAxSi
  | 0x7 => .op .xchgAxDi
  | 0x8 => .op .cbw
  | 0x9 => .op .cwd
  | 0xC => .op .pushf
  | 0xD => .op .popf
  | 0xE => .op .sahf
  | 0xF => .op .lahf
  | _ => .invalid

/-- Row A0-AF of the opcode map, by the low four bits (R146, R165). -/
def opcodeRowA : Nat → Entry
  | 0x0 => .imm16 .movAlMoffs8
  | 0x1 => .imm16 .movAxMoffs16
  | 0x2 => .imm16 .movMoffs8Al
  | 0x3 => .imm16 .movMoffs16Ax
  | 0x8 => .imm8 .testAlImm8
  | 0x9 => .imm16 .testAxImm16
  | _ => .invalid

/-- Row B0-BF of the opcode map, by the low four bits (R147, R165). -/
def opcodeRowB : Nat → Entry
  | 0x0 => .imm8 .movAlImm8
  | 0x1 => .imm8 .movClImm8
  | 0x2 => .imm8 .movDlImm8
  | 0x3 => .imm8 .movBlImm8
  | 0x4 => .imm8 .movAhImm8
  | 0x5 => .imm8 .movChImm8
  | 0x6 => .imm8 .movDhImm8
  | 0x7 => .imm8 .movBhImm8
  | 0x8 => .imm16 .movAxImm16
  | 0x9 => .imm16 .movCxImm16
  | 0xA => .imm16 .movDxImm16
  | 0xB => .imm16 .movBxImm16
  | 0xC => .imm16 .movSpImm16
  | 0xD => .imm16 .movBpImm16
  | 0xE => .imm16 .movSiImm16
  | _ => .imm16 .movDiImm16

/-- Row C0-CF of the opcode map, by the low four bits (R148, R165). -/
def opcodeRowC : Nat → Entry
  | 0x2 => .imm16 .retImm16
  | 0x3 => .op .ret
  | 0x6 => .modrm groupC6
  | 0x7 => .modrm groupC7
  | _ => .invalid

/-- Row D0-DF of the opcode map (R149): InvalidOpcode. -/
def opcodeRowD : Nat → Entry
  | _ => .invalid

/-- Row E0-EF of the opcode map, by the low four bits (R150, R165). -/
def opcodeRowE : Nat → Entry
  | 0x0 => .imm8 .loopneRel8
  | 0x1 => .imm8 .loopeRel8
  | 0x2 => .imm8 .loopRel8
  | 0x3 => .imm8 .jcxzRel8
  | 0x8 => .imm16 .callRel16
  | 0x9 => .imm16 .jmpRel16
  | 0xB => .imm8 .jmpRel8
  | _ => .invalid

/-- Row F0-FF of the opcode map, by the low four bits (R151, R165). -/
def opcodeRowF : Nat → Entry
  | 0x4 => .op .hlt
  | 0x5 => .op .cmc
  | 0x6 => .modrm groupF6
  | 0x7 => .modrm groupF7
  | 0x8 => .op .clc
  | 0x9 => .op .stc
  | 0xA => .op .cli
  | 0xB => .op .sti
  | 0xC => .op .cld
  | 0xD => .op .std
  | 0xE => .modrm groupFE
  | 0xF => .modrm groupFF
  | _ => .invalid

/-- The full one-byte opcode map (R165). -/
def opcodeEntry (opc : Byte) : Entry :=
  let lo := opc.toNat % 16
  match opc.toNat / 16 with
  | 0x0 => opcodeRow0 lo
  | 0x1 => opcodeRow1 lo
  | 0x2 => opcodeRow2 lo
  | 0x3 => opcodeRow3 lo
  | 0x4 => opcodeRow4 lo
  | 0x5 => opcodeRow5 lo
  | 0x6 => opcodeRow6 lo
  | 0x7 => opcodeRow7 lo
  | 0x8 => opcodeRow8 lo
  | 0x9 => opcodeRow9 lo
  | 0xA => opcodeRowA lo
  | 0xB => opcodeRowB lo
  | 0xC => opcodeRowC lo
  | 0xD => opcodeRowD lo
  | 0xE => opcodeRowE lo
  | _ => opcodeRowF lo

/-! ## The decoder -/

/-- What a decoder answers: an instruction and the bytes after it, or that the bytes end before the instruction does. -/
inductive Decoded where
  | ok (i : Instr) (rest : List Byte)
  | endOfProgram
  deriving DecidableEq, Repr

/-- After the ModRM byte `m` of the opcode `opc`: the checks come before any displacement byte is read (R167). -/
def decodeModrm (opc m : Byte) (e : ModEntry) (bs : List Byte) : Decoded :=
  match e with
  | .forbidden => .ok (.invalid opc (some m)) bs
  | .plain f =>
    match readEa (ModRM.ofByte m) bs with
    | some (ea, rest) => .ok (f ea) rest
    | none => .endOfProgram
  | .mem f =>
    match readEa (ModRM.ofByte m) bs with
    | some (.mem ref, rest) => .ok (f ref) rest
    | some (.reg _, _) => .ok (.invalid opc (some m)) bs
    | none => .endOfProgram
  | .imm8 f =>
    match readEa (ModRM.ofByte m) bs with
    | some (ea, b0 :: rest) => .ok (f ea b0) rest
    | _ => .endOfProgram
  | .imm16 f =>
    match readEa (ModRM.ofByte m) bs with
    | some (ea, b0 :: b1 :: rest) => .ok (f ea (wordOf b0 b1)) rest
    | _ => .endOfProgram

/-- One opcode with its operands, or one prefix byte. -/
def decodeUnit : List Byte → Decoded
  | [] => .endOfProgram
  | opc :: bs =>
    match opcodeEntry opc with
    | .invalid => .ok (.invalid opc none) bs
    | .op i => .ok i bs
    | .imm8 f =>
      match bs with
      | b0 :: rest => .ok (f b0) rest
      | [] => .endOfProgram
    | .imm16 f =>
      match bs with
      | b0 :: b1 :: rest => .ok (f (wordOf b0 b1)) rest
      | _ => .endOfProgram
    | .modrm f =>
      match bs with
      | m :: rest => decodeModrm opc m (f (ModRM.ofByte m)) rest
      | [] => .endOfProgram

/-- The segment register a prefix instruction selects (R131): 26 is ES, 2E is CS, 36 is SS, 3E is DS. -/
def Instr.segPrefix? : Instr → Option SegReg
  | .prefixEs => some .es
  | .prefixCs => some .cs
  | .prefixSs => some .ss
  | .prefixDs => some .ds
  | _ => none

/-- A whole instruction as a step consumes it: the prefix, if there is one, the instruction, and the bytes after it. -/
inductive DecodedInsn where
  | ok (pre : Option Instr) (i : Instr) (rest : List Byte)
  | endOfProgram
  deriving DecidableEq, Repr

/-- `decode()` (40_step_and_queue.md R212): at most one prefix, and a second one is rejected as soon as it is read
(30_encoding.md R131). -/
def decode (bs : List Byte) : DecodedInsn :=
  match decodeUnit bs with
  | .endOfProgram => .endOfProgram
  | .ok p rest =>
    if p.segPrefix?.isNone then .ok none p rest
    else
      match rest with
      | [] => .endOfProgram
      | b :: _ =>
        match decodeUnit rest with
        | .endOfProgram => .endOfProgram
        | .ok i rest' =>
          if i.segPrefix?.isNone then .ok (some p) i rest' else .ok (some p) (.invalid b none) rest'

/-! ## The encoder -/

/-- The ModRM byte and displacement of a memory operand, with `reg` in the reg field (R122, R123). -/
def MemRef.bytes (m : MemRef) (reg : BitVec 3) : List Byte :=
  match m with
  | .base b => [ModRM.toByte ⟨0, reg, b.num⟩]
  | .direct off => ModRM.toByte ⟨0, reg, 6⟩ :: wordBytes off
  | .disp8 b d => [ModRM.toByte ⟨1, reg, b.num⟩, d]
  | .disp16 b d => ModRM.toByte ⟨2, reg, b.num⟩ :: wordBytes d

def Rm.bytes8 (rm : Rm8) (reg : BitVec 3) : List Byte :=
  match rm with
  | .reg r => [ModRM.toByte ⟨3, reg, r.num⟩]
  | .mem m => m.bytes reg

def Rm.bytes16 (rm : Rm16) (reg : BitVec 3) : List Byte :=
  match rm with
  | .reg r => [ModRM.toByte ⟨3, reg, r.num⟩]
  | .mem m => m.bytes reg

/-- The bytes of one opcode with its operands, or of one prefix. -/
def encode : Instr → List Byte
  | .addRm8R8 rm r => 0x00 :: (rm.bytes8 r.num)
  | .addRm16R16 rm r => 0x01 :: (rm.bytes16 r.num)
  | .addR8Rm8 r rm => 0x02 :: (rm.bytes8 r.num)
  | .addR16Rm16 r rm => 0x03 :: (rm.bytes16 r.num)
  | .addAlImm8 imm => [0x04, imm]
  | .addAxImm16 imm => 0x05 :: wordBytes imm
  | .orRm8R8 rm r => 0x08 :: (rm.bytes8 r.num)
  | .orRm16R16 rm r => 0x09 :: (rm.bytes16 r.num)
  | .orR8Rm8 r rm => 0x0A :: (rm.bytes8 r.num)
  | .orR16Rm16 r rm => 0x0B :: (rm.bytes16 r.num)
  | .orAlImm8 imm => [0x0C, imm]
  | .orAxImm16 imm => 0x0D :: wordBytes imm
  | .adcRm8R8 rm r => 0x10 :: (rm.bytes8 r.num)
  | .adcRm16R16 rm r => 0x11 :: (rm.bytes16 r.num)
  | .adcR8Rm8 r rm => 0x12 :: (rm.bytes8 r.num)
  | .adcR16Rm16 r rm => 0x13 :: (rm.bytes16 r.num)
  | .adcAlImm8 imm => [0x14, imm]
  | .adcAxImm16 imm => 0x15 :: wordBytes imm
  | .sbbRm8R8 rm r => 0x18 :: (rm.bytes8 r.num)
  | .sbbRm16R16 rm r => 0x19 :: (rm.bytes16 r.num)
  | .sbbR8Rm8 r rm => 0x1A :: (rm.bytes8 r.num)
  | .sbbR16Rm16 r rm => 0x1B :: (rm.bytes16 r.num)
  | .sbbAlImm8 imm => [0x1C, imm]
  | .sbbAxImm16 imm => 0x1D :: wordBytes imm
  | .andRm8R8 rm r => 0x20 :: (rm.bytes8 r.num)
  | .andRm16R16 rm r => 0x21 :: (rm.bytes16 r.num)
  | .andR8Rm8 r rm => 0x22 :: (rm.bytes8 r.num)
  | .andR16Rm16 r rm => 0x23 :: (rm.bytes16 r.num)
  | .andAlImm8 imm => [0x24, imm]
  | .andAxImm16 imm => 0x25 :: wordBytes imm
  | .subRm8R8 rm r => 0x28 :: (rm.bytes8 r.num)
  | .subRm16R16 rm r => 0x29 :: (rm.bytes16 r.num)
  | .subR8Rm8 r rm => 0x2A :: (rm.bytes8 r.num)
  | .subR16Rm16 r rm => 0x2B :: (rm.bytes16 r.num)
  | .subAlImm8 imm => [0x2C, imm]
  | .subAxImm16 imm => 0x2D :: wordBytes imm
  | .xorRm8R8 rm r => 0x30 :: (rm.bytes8 r.num)
  | .xorRm16R16 rm r => 0x31 :: (rm.bytes16 r.num)
  | .xorR8Rm8 r rm => 0x32 :: (rm.bytes8 r.num)
  | .xorR16Rm16 r rm => 0x33 :: (rm.bytes16 r.num)
  | .xorAlImm8 imm => [0x34, imm]
  | .xorAxImm16 imm => 0x35 :: wordBytes imm
  | .cmpRm8R8 rm r => 0x38 :: (rm.bytes8 r.num)
  | .cmpRm16R16 rm r => 0x39 :: (rm.bytes16 r.num)
  | .cmpR8Rm8 r rm => 0x3A :: (rm.bytes8 r.num)
  | .cmpR16Rm16 r rm => 0x3B :: (rm.bytes16 r.num)
  | .cmpAlImm8 imm => [0x3C, imm]
  | .cmpAxImm16 imm => 0x3D :: wordBytes imm
  | .pushEs => [0x06]
  | .popEs => [0x07]
  | .pushCs => [0x0E]
  | .pushSs => [0x16]
  | .popSs => [0x17]
  | .pushDs => [0x1E]
  | .popDs => [0x1F]
  | .prefixEs => [0x26]
  | .prefixCs => [0x2E]
  | .prefixSs => [0x36]
  | .prefixDs => [0x3E]
  | .incAx => [0x40]
  | .incCx => [0x41]
  | .incDx => [0x42]
  | .incBx => [0x43]
  | .incSp => [0x44]
  | .incBp => [0x45]
  | .incSi => [0x46]
  | .incDi => [0x47]
  | .decAx => [0x48]
  | .decCx => [0x49]
  | .decDx => [0x4A]
  | .decBx => [0x4B]
  | .decSp => [0x4C]
  | .decBp => [0x4D]
  | .decSi => [0x4E]
  | .decDi => [0x4F]
  | .pushAx => [0x50]
  | .pushCx => [0x51]
  | .pushDx => [0x52]
  | .pushBx => [0x53]
  | .pushSp => [0x54]
  | .pushBp => [0x55]
  | .pushSi => [0x56]
  | .pushDi => [0x57]
  | .popAx => [0x58]
  | .popCx => [0x59]
  | .popDx => [0x5A]
  | .popBx => [0x5B]
  | .popSp => [0x5C]
  | .popBp => [0x5D]
  | .popSi => [0x5E]
  | .popDi => [0x5F]
  | .joRel8 rel => [0x70, rel]
  | .jnoRel8 rel => [0x71, rel]
  | .jbRel8 rel => [0x72, rel]
  | .jaeRel8 rel => [0x73, rel]
  | .jeRel8 rel => [0x74, rel]
  | .jneRel8 rel => [0x75, rel]
  | .jbeRel8 rel => [0x76, rel]
  | .jaRel8 rel => [0x77, rel]
  | .jsRel8 rel => [0x78, rel]
  | .jnsRel8 rel => [0x79, rel]
  | .jpRel8 rel => [0x7A, rel]
  | .jnpRel8 rel => [0x7B, rel]
  | .jlRel8 rel => [0x7C, rel]
  | .jgeRel8 rel => [0x7D, rel]
  | .jleRel8 rel => [0x7E, rel]
  | .jgRel8 rel => [0x7F, rel]
  | .addRm8Imm8 rm imm => 0x80 :: (rm.bytes8 0) ++ [imm]
  | .orRm8Imm8 rm imm => 0x80 :: (rm.bytes8 1) ++ [imm]
  | .adcRm8Imm8 rm imm => 0x80 :: (rm.bytes8 2) ++ [imm]
  | .sbbRm8Imm8 rm imm => 0x80 :: (rm.bytes8 3) ++ [imm]
  | .andRm8Imm8 rm imm => 0x80 :: (rm.bytes8 4) ++ [imm]
  | .subRm8Imm8 rm imm => 0x80 :: (rm.bytes8 5) ++ [imm]
  | .xorRm8Imm8 rm imm => 0x80 :: (rm.bytes8 6) ++ [imm]
  | .cmpRm8Imm8 rm imm => 0x80 :: (rm.bytes8 7) ++ [imm]
  | .addRm16Imm16 rm imm => 0x81 :: (rm.bytes16 0) ++ wordBytes imm
  | .orRm16Imm16 rm imm => 0x81 :: (rm.bytes16 1) ++ wordBytes imm
  | .adcRm16Imm16 rm imm => 0x81 :: (rm.bytes16 2) ++ wordBytes imm
  | .sbbRm16Imm16 rm imm => 0x81 :: (rm.bytes16 3) ++ wordBytes imm
  | .andRm16Imm16 rm imm => 0x81 :: (rm.bytes16 4) ++ wordBytes imm
  | .subRm16Imm16 rm imm => 0x81 :: (rm.bytes16 5) ++ wordBytes imm
  | .xorRm16Imm16 rm imm => 0x81 :: (rm.bytes16 6) ++ wordBytes imm
  | .cmpRm16Imm16 rm imm => 0x81 :: (rm.bytes16 7) ++ wordBytes imm
  | .addRm16Imm8 rm imm => 0x83 :: (rm.bytes16 0) ++ [imm]
  | .orRm16Imm8 rm imm => 0x83 :: (rm.bytes16 1) ++ [imm]
  | .adcRm16Imm8 rm imm => 0x83 :: (rm.bytes16 2) ++ [imm]
  | .sbbRm16Imm8 rm imm => 0x83 :: (rm.bytes16 3) ++ [imm]
  | .andRm16Imm8 rm imm => 0x83 :: (rm.bytes16 4) ++ [imm]
  | .subRm16Imm8 rm imm => 0x83 :: (rm.bytes16 5) ++ [imm]
  | .xorRm16Imm8 rm imm => 0x83 :: (rm.bytes16 6) ++ [imm]
  | .cmpRm16Imm8 rm imm => 0x83 :: (rm.bytes16 7) ++ [imm]
  | .testRm8R8 rm r => 0x84 :: (rm.bytes8 r.num)
  | .testRm16R16 rm r => 0x85 :: (rm.bytes16 r.num)
  | .xchgRm8R8 rm r => 0x86 :: (rm.bytes8 r.num)
  | .xchgRm16R16 rm r => 0x87 :: (rm.bytes16 r.num)
  | .movRm8R8 rm r => 0x88 :: (rm.bytes8 r.num)
  | .movRm16R16 rm r => 0x89 :: (rm.bytes16 r.num)
  | .movR8Rm8 r rm => 0x8A :: (rm.bytes8 r.num)
  | .movR16Rm16 r rm => 0x8B :: (rm.bytes16 r.num)
  | .movRm16Sreg rm sr => 0x8C :: (rm.bytes16 sr.num3)
  | .leaR16M r m => 0x8D :: (m.bytes r.num)
  | .movEsRm16 rm => 0x8E :: (rm.bytes16 0)
  | .movSsDsRm16 sr rm => 0x8E :: (rm.bytes16 sr.num3)
  | .popRm16 rm => 0x8F :: (rm.bytes16 0)
  | .nop => [0x90]
  | .xchgAxCx => [0x91]
  | .xchgAxDx => [0x92]
  | .xchgAxBx => [0x93]
  | .xchgAxSp => [0x94]
  | .xchgAxBp => [0x95]
  | .xchgAxSi => [0x96]
  | .xchgAxDi => [0x97]
  | .cbw => [0x98]
  | .cwd => [0x99]
  | .pushf => [0x9C]
  | .popf => [0x9D]
  | .sahf => [0x9E]
  | .lahf => [0x9F]
  | .movAlMoffs8 off => 0xA0 :: wordBytes off
  | .movAxMoffs16 off => 0xA1 :: wordBytes off
  | .movMoffs8Al off => 0xA2 :: wordBytes off
  | .movMoffs16Ax off => 0xA3 :: wordBytes off
  | .testAlImm8 imm => [0xA8, imm]
  | .testAxImm16 imm => 0xA9 :: wordBytes imm
  | .movAlImm8 imm => [0xB0, imm]
  | .movClImm8 imm => [0xB1, imm]
  | .movDlImm8 imm => [0xB2, imm]
  | .movBlImm8 imm => [0xB3, imm]
  | .movAhImm8 imm => [0xB4, imm]
  | .movChImm8 imm => [0xB5, imm]
  | .movDhImm8 imm => [0xB6, imm]
  | .movBhImm8 imm => [0xB7, imm]
  | .movAxImm16 imm => 0xB8 :: wordBytes imm
  | .movCxImm16 imm => 0xB9 :: wordBytes imm
  | .movDxImm16 imm => 0xBA :: wordBytes imm
  | .movBxImm16 imm => 0xBB :: wordBytes imm
  | .movSpImm16 imm => 0xBC :: wordBytes imm
  | .movBpImm16 imm => 0xBD :: wordBytes imm
  | .movSiImm16 imm => 0xBE :: wordBytes imm
  | .movDiImm16 imm => 0xBF :: wordBytes imm
  | .retImm16 imm => 0xC2 :: wordBytes imm
  | .ret => [0xC3]
  | .movRm8Imm8 rm imm => 0xC6 :: (rm.bytes8 0) ++ [imm]
  | .movRm16Imm16 rm imm => 0xC7 :: (rm.bytes16 0) ++ wordBytes imm
  | .loopneRel8 rel => [0xE0, rel]
  | .loopeRel8 rel => [0xE1, rel]
  | .loopRel8 rel => [0xE2, rel]
  | .jcxzRel8 rel => [0xE3, rel]
  | .callRel16 rel => 0xE8 :: wordBytes rel
  | .jmpRel16 rel => 0xE9 :: wordBytes rel
  | .jmpRel8 rel => [0xEB, rel]
  | .hlt => [0xF4]
  | .cmc => [0xF5]
  | .clc => [0xF8]
  | .stc => [0xF9]
  | .cli => [0xFA]
  | .sti => [0xFB]
  | .cld => [0xFC]
  | .std => [0xFD]
  | .testRm8Imm8 rm imm => 0xF6 :: (rm.bytes8 0) ++ [imm]
  | .testRm16Imm16 rm imm => 0xF7 :: (rm.bytes16 0) ++ wordBytes imm
  | .notRm8 rm => 0xF6 :: (rm.bytes8 2)
  | .notRm16 rm => 0xF7 :: (rm.bytes16 2)
  | .negRm8 rm => 0xF6 :: (rm.bytes8 3)
  | .negRm16 rm => 0xF7 :: (rm.bytes16 3)
  | .mulRm8 rm => 0xF6 :: (rm.bytes8 4)
  | .mulRm16 rm => 0xF7 :: (rm.bytes16 4)
  | .imulRm8 rm => 0xF6 :: (rm.bytes8 5)
  | .imulRm16 rm => 0xF7 :: (rm.bytes16 5)
  | .divRm8 rm => 0xF6 :: (rm.bytes8 6)
  | .divRm16 rm => 0xF7 :: (rm.bytes16 6)
  | .idivRm8 rm => 0xF6 :: (rm.bytes8 7)
  | .idivRm16 rm => 0xF7 :: (rm.bytes16 7)
  | .incRm8 rm => 0xFE :: (rm.bytes8 0)
  | .decRm8 rm => 0xFE :: (rm.bytes8 1)
  | .incRm16 rm => 0xFF :: (rm.bytes16 0)
  | .decRm16 rm => 0xFF :: (rm.bytes16 1)
  | .callRm16 rm => 0xFF :: (rm.bytes16 2)
  | .jmpRm16 rm => 0xFF :: (rm.bytes16 4)
  | .pushRm16 rm => 0xFF :: (rm.bytes16 6)
  | .invalid opc modrm => opc :: modrm.toList

/-- The bytes of a whole instruction: its prefix, if there is one, and then the instruction (R120). -/
def encodeInsn (pre : Option Instr) (i : Instr) : List Byte :=
  match pre with
  | none => encode i
  | some p => encode p ++ encode i

/-! ## The opcode table's numbers -/

/-- The longest instruction has 7 bytes (R120). -/
def maxInstrBytes : Nat := 7

/-- The seven bytes that a number `w` of `nbits` bits stands for, as spec/opcode_table.json numbers its rows: in an 8-bit
row the number is the opcode byte; in a 16-bit row it is "the opcode byte shifted left 8 bits, OR'd with the ModRM byte"
(INDEX.md), so the opcode byte is bits 15:8 and comes first in memory. Bits above 16 count on, one byte after another.
Every byte `nbits` does not reach is 0. DEDUCED (log entry 7). -/
def tableBytes (nbits w : Nat) : List Byte :=
  let v := w % 2 ^ nbits
  let byte := fun k => BitVec.ofNat 8 (v / 2 ^ (8 * k))
  if nbits ≤ 8 then [byte 0, 0, 0, 0, 0, 0, 0]
  else [byte 1, byte 0, byte 2, byte 3, byte 4, byte 5, byte 6]

/-- The instruction the decoder reads from a number of the opcode table. -/
def decodeTableWord (nbits w : Nat) : Option Instr :=
  match decodeUnit (tableBytes nbits w) with
  | .ok i _ => some i
  | .endOfProgram => none

end Sys2Proof
end

