-- ==== Sys2Proof/Config.lean ====
section
/-! DEFINITION. What `load` takes: the implementation parameters with their defaults, and the program image
(00_scope.md R5). The spec leaves no value free that an instruction produces, so there is no free value here. -/

namespace Sys2Proof

/-- The configuration argument of `load` (R5, 92_eei_decisions.md D37). The fields are naturals because `load` itself
checks their ranges (70_reset_and_hazards.md R541); the defaults are R5's. -/
structure LoadConfig where
  memSize : Nat := 0x100000
  queueCap : Nat := 6
  segBaseDs : Nat := 0x2000
  segBaseCs : Nat := 0x3000
  segBaseSs : Nat := 0x5000
  segBaseEs : Nat := 0x7000
  deriving DecidableEq, Repr

/-- `IMAGE`: a byte sequence, its length as the image states it, and a 16-bit entry offset (R5). -/
structure Image where
  bytes : List Byte
  size : Nat
  entry : Word
  deriving DecidableEq, Repr

/-- The image with no bytes and entry 0, which `State.reset` has loaded. DESIGN CHOICE (log entry 1): the spec gives
`load`'s image argument no default. -/
def Image.empty : Image := { bytes := [], size := 0, entry := 0 }

/-- `1 <= MEM_SIZE and 1 <= QUEUE_CAP and every SEG_BASE_* < 0x10000 and IMAGE.size = |IMAGE.bytes| and
IMAGE.entry + IMAGE.size <= 0x10000` (70_reset_and_hazards.md R541). -/
abbrev validLoad (img : Image) (cfg : LoadConfig) : Prop :=
  1 ≤ cfg.memSize ∧ 1 ≤ cfg.queueCap ∧
    cfg.segBaseDs < 0x10000 ∧ cfg.segBaseCs < 0x10000 ∧ cfg.segBaseSs < 0x10000 ∧ cfg.segBaseEs < 0x10000 ∧
    img.size = img.bytes.length ∧ img.entry.toNat + img.size ≤ 0x10000

end Sys2Proof
end

