-- ==== Sys2Proof/Machine/State.lean ====
section
/-! DEFINITION. The state of the block as plain data (10_state.md), the reasons a step can stop, and the state after
reset. INVENTORY.md's '## State' lists every field with its rule and its reset value. -/

namespace Sys2Proof.Machine

/-- The eight general registers (R30), in the order of their numbers (R31). -/
structure Regs where
  ax : Word
  cx : Word
  dx : Word
  bx : Word
  sp : Word
  bp : Word
  si : Word
  di : Word
  deriving DecidableEq, Repr

/-- The four segment registers (R36), in the order of their numbers. -/
structure SegRegs where
  es : Word
  cs : Word
  ss : Word
  ds : Word
  deriving DecidableEq, Repr

/-- The nine flags (R40): `zf`, `sf` and `ovf` are the spec's Z, S and O, `ief` is its IF. -/
structure Flags where
  cf : Bool
  pf : Bool
  af : Bool
  zf : Bool
  sf : Bool
  ovf : Bool
  tf : Bool
  ief : Bool
  df : Bool
  deriving DecidableEq, Repr

/-- The values of the status register (R53). -/
inductive Status where
  | noImage | loaded | running | halted | faulted
  deriving DecidableEq, Repr

/-- The values of the haltReason register (R54). -/
inductive HaltReason where
  | none | hlt | endOfProgram
  deriving DecidableEq, Repr

/-- The values of the faultKind register (R55, 60_exceptions.md R500). -/
inductive FaultKind where
  | none | invalidOpcode | stackFault | divideFault | memoryFault
  deriving DecidableEq, Repr

/-- Memory as a list of (address, byte) cells, addresses strictly rising, no cell equal to what an unlisted address reads
as (`Memory.wf`, Ops.lean). -/
abbrev Memory := List Host.Cell

/-- The whole state of the block. `instrStart` and `segOverride` are the transient decode state of R57, held here because
`exec` is given one instruction and one state; they are parked at 0 and none between steps (log entry 3). -/
structure State where
  regs : Regs
  segs : SegRegs
  flags : Flags
  ip : Word
  queue : List Byte
  mem : Memory
  status : Status
  haltReason : HaltReason
  faultKind : FaultKind
  faultIp : Word
  faultOpcode : Byte
  memSize : Nat
  queueCap : Nat
  segBase : SegRegs
  codeLo : Nat
  codeHi : Nat
  image : Image
  instrStart : Word
  segOverride : Option SegReg
  deriving DecidableEq, Repr

/-- Why a step stops with no state change. -/
inductive Fault where
  /-- A step in FAULTED: it returns `Err(faultKind, faultIP, faultOpcode)` and changes nothing (40_step_and_queue.md R200,
  60_exceptions.md R507). Raised by `step` alone. Safe: the spec gives this step no other effect. The step that raises a
  fault is no `Fault` here: it answers the next state, with the fault recorded and status FAULTED. -/
  | recorded (kind : FaultKind) (ip : Word) (opcode : Byte)
  deriving DecidableEq, Repr

/-- Why a request is refused with no state change. -/
inductive Refusal where
  /-- An instruction with no meaning yet, by its mnemonic. No arm of `exec` answers it in this model. Safe. -/
  | notModelled (mnemonic : String)
  /-- `step` (and, in HostPort.lean, every host operation but `load`) in NO_IMAGE: `Err(NotLoaded)`
  (70_reset_and_hazards.md R542). Safe: the spec refuses it. -/
  | notLoaded
  deriving DecidableEq, Repr

/-- The state after reset: R540's table (70_reset_and_hazards.md) with the default configuration of 00_scope.md R5 and the
empty image at entry 0. DESIGN CHOICE (log entry 1): `load` takes the image as an argument and the spec gives it no
default, so no program is put here. Every register value is R540's. -/
def State.reset : State where
  regs := { ax := 0, cx := 0, dx := 0, bx := 0, sp := 0xFFFE, bp := 0, si := 0, di := 0 }
  segs := { es := 0x7000, cs := 0x3000, ss := 0x5000, ds := 0x2000 }
  flags :=
    { cf := false, pf := false, af := false, zf := false, sf := false, ovf := false, tf := false, ief := false,
      df := false }
  ip := 0
  queue := []
  mem := []
  status := .loaded
  haltReason := .none
  faultKind := .none
  faultIp := 0
  faultOpcode := 0
  memSize := 0x100000
  queueCap := 6
  segBase := { es := 0x7000, cs := 0x3000, ss := 0x5000, ds := 0x2000 }
  codeLo := 0
  codeHi := 0
  image := Image.empty
  instrStart := 0
  segOverride := none

/-- Power-on, before the first `load` (R542): status NO_IMAGE, where every other piece of state "holds no value". The
fields hold reset's values, which nothing can read: every operation but `load` is refused. DESIGN CHOICE (log entry 6). -/
def State.powerOn : State := { State.reset with status := .noImage }

end Sys2Proof.Machine
end

