-- ==== Sys2Proof/Machine/Ops.lean ====
section
/-! DEFINITION. The named operations over memory, registers, the instruction pointer and the stack, and the one way to
take a fault (60_exceptions.md R503). -/

namespace Sys2Proof.Machine

/-! ## Memory (20_memory.md R80 to R95) -/

/-- What an address that no cell lists reads as: `load` sets every byte to 0x00 before it writes the image (R95). -/
def Memory.unlisted : Byte := 0

def Memory.read : Memory → Nat → Byte
  | [], _ => Memory.unlisted
  | c :: m, a => if c.1 = a then c.2 else Memory.read m a

def Memory.erase (m : Memory) (a : Nat) : Memory := m.filter fun c => decide (c.1 ≠ a)

/-- Put a cell before the first one of a higher address. -/
def Memory.insert : Memory → Nat → Byte → Memory
  | [], a, b => [(a, b)]
  | c :: m, a, b => if a < c.1 then (a, b) :: c :: m else c :: Memory.insert m a b

/-- Writing what an unlisted address reads as removes the cell, so that equal memories are equal lists. -/
def Memory.write (m : Memory) (a : Nat) (b : Byte) : Memory :=
  if b = Memory.unlisted then m.erase a else (m.erase a).insert a b

/-- The canonical form: addresses strictly rising, and no cell that holds what an unlisted address reads as. -/
abbrev Memory.wf (m : Memory) : Prop :=
  m.Pairwise (fun c d => c.1 < d.1) ∧ ∀ c ∈ m, c.2 ≠ Memory.unlisted

/-- `lin(s, o) = (s * 16 + o) mod MEM_SIZE` (R81). -/
def State.lin (s : State) (seg off : Word) : Nat := (seg.toNat * 16 + off.toNat) % s.memSize

/-- The check of every byte transaction (R82): the linear address lies in the store. R81 reduces every address, so it
never fails where `MEM_SIZE >= 1`, which `load` enforces; it is carried as an assertion (log entry 9). -/
def State.portOk (s : State) (a : Nat) : Bool := a < s.memSize

/-- `MemRead((s, o), 1)` (R84). -/
def State.memRead8 (s : State) (seg off : Word) : Byte := s.mem.read (s.lin seg off)

/-- `MemRead((s, o), 2)`: the second offset wraps mod 65536 by itself (R83, R84). -/
def State.memRead16 (s : State) (seg off : Word) : Word := wordOf (s.memRead8 seg off) (s.memRead8 seg (off + 1))

/-- `MemWrite((s, o), 1, v)` (R85). -/
def State.memWrite8 (s : State) (seg off : Word) (v : Byte) : State :=
  { s with mem := s.mem.write (s.lin seg off) v }

/-- `MemWrite((s, o), 2, v)`: the low byte first, then the high byte at the wrapped offset (R85). -/
def State.memWrite16 (s : State) (seg off : Word) (v : Word) : State :=
  (s.memWrite8 seg off (loByte v)).memWrite8 seg (off + 1) (hiByte v)

/-! ## Registers (10_state.md R31, R32, R36) -/

def Regs.get (g : Regs) : Reg16 → Word
  | .ax => g.ax | .cx => g.cx | .dx => g.dx | .bx => g.bx
  | .sp => g.sp | .bp => g.bp | .si => g.si | .di => g.di

def Regs.set (g : Regs) (r : Reg16) (v : Word) : Regs :=
  match r with
  | .ax => { g with ax := v } | .cx => { g with cx := v } | .dx => { g with dx := v } | .bx => { g with bx := v }
  | .sp => { g with sp := v } | .bp => { g with bp := v } | .si => { g with si := v } | .di => { g with di := v }

/-- The word register a byte register is half of (R32). -/
def wordReg : Reg8 → Reg16
  | .al => .ax | .cl => .cx | .dl => .dx | .bl => .bx
  | .ah => .ax | .ch => .cx | .dh => .dx | .bh => .bx

/-- Whether a byte register is bits 15:8 of its word register (R32). -/
def isHigh : Reg8 → Bool
  | .al => false | .cl => false | .dl => false | .bl => false
  | .ah => true | .ch => true | .dh => true | .bh => true

/-- `x8[n]` (R32). -/
def Regs.get8 (g : Regs) (r : Reg8) : Byte :=
  if isHigh r then hiByte (g.get (wordReg r)) else loByte (g.get (wordReg r))

/-- `x8[n] <- v` writes only those 8 bits of the word register (R32). -/
def Regs.set8 (g : Regs) (r : Reg8) (v : Byte) : Regs :=
  let w := g.get (wordReg r)
  g.set (wordReg r) (if isHigh r then wordOf (loByte w) v else wordOf v (hiByte w))

def SegRegs.get (g : SegRegs) : SegReg → Word
  | .es => g.es | .cs => g.cs | .ss => g.ss | .ds => g.ds

def SegRegs.set (g : SegRegs) (r : SegReg) (v : Word) : SegRegs :=
  match r with
  | .es => { g with es := v } | .cs => { g with cs := v } | .ss => { g with ss := v } | .ds => { g with ds := v }

/-- `x16[n]` (R31). -/
def State.x16 (s : State) (r : Reg16) : Word := s.regs.get r

/-- `x16[n] <- v` (R31). -/
def State.setX16 (s : State) (r : Reg16) (v : Word) : State := { s with regs := s.regs.set r v }

def State.x8 (s : State) (r : Reg8) : Byte := s.regs.get8 r

def State.setX8 (s : State) (r : Reg8) (v : Byte) : State := { s with regs := s.regs.set8 r v }

/-- `sreg[n]` (R36). -/
def State.sreg (s : State) (r : SegReg) : Word := s.segs.get r

/-- `sreg[n] <- v` (R36). -/
def State.setSreg (s : State) (r : SegReg) (v : Word) : State := { s with segs := s.segs.set r v }

def State.setFlags (s : State) (f : Flags) : State := { s with flags := f }

/-! ## The instruction pointer and control transfer -/

/-- `archIP = trunc_16(IP - |Q|)` (10_state.md R34). When decode has returned it is `nextIP` (40_step_and_queue.md R214). -/
def State.archIp (s : State) : Word := s.ip - BitVec.ofNat 16 s.queue.length

/-- `jump(target)`: the queue is emptied and IP loaded (40_step_and_queue.md R215). -/
def State.jump (s : State) (target : Word) : State := { s with queue := [], ip := target }

/-- `abandon()` (40_step_and_queue.md R217). -/
def State.abandon (s : State) : State := { s with queue := [], ip := s.instrStart }

/-- `raise K(instrStart, opc)` (60_exceptions.md R503): the fault record, abandon, status FAULTED. -/
def State.raise (s : State) (k : FaultKind) (opc : Byte) : State :=
  { s.abandon with faultKind := k, faultIp := s.instrStart, faultOpcode := opc, status := .faulted }

/-- `endOfProgram()` (40_step_and_queue.md R218): no fault is recorded. -/
def State.endOfProgram (s : State) : State := { s.abandon with status := .halted, haltReason := .endOfProgram }

/-! ## The codes of the controller's registers -/

/-- The number the status register holds (R53). -/
def Status.code : Status → BitVec 3
  | .noImage => 0 | .loaded => 1 | .running => 2 | .halted => 3 | .faulted => 4

/-- The number the haltReason register holds (R54). -/
def HaltReason.code : HaltReason → BitVec 2
  | .none => 0 | .hlt => 1 | .endOfProgram => 2

/-- The number the faultKind register holds (R55, 60_exceptions.md R500). -/
def FaultKind.code : FaultKind → BitVec 3
  | .none => 0 | .invalidOpcode => 1 | .stackFault => 2 | .divideFault => 3 | .memoryFault => 4

/-! ## The stack (45_stack.md R380 to R382) -/

/-- `checkPush(n)` passes: `SP - n >= 0` in exact integers (R380). -/
def State.pushFits (s : State) (n : Nat) : Bool := n ≤ (s.x16 .sp).toNat

/-- `checkPop(n)` passes: `SP + n <= 0xFFFF` in exact integers (R380). -/
def State.popFits (s : State) (n : Nat) : Bool := (s.x16 .sp).toNat + n ≤ 0xFFFF

/-- `push16(v)` after its check (R381): SP is decremented, then the word is written at SS:SP. -/
def State.push16 (s : State) (v : Word) : State :=
  let t := s.setX16 .sp (s.x16 .sp - 2)
  t.memWrite16 (t.sreg .ss) (t.x16 .sp) v

/-- The word at SS:SP, which a pop reads (R382). -/
def State.stackTop (s : State) : Word := s.memRead16 (s.sreg .ss) (s.x16 .sp)

/-- What the step answers, in the model's own types. -/
abbrev Result := Host.Outcome State Fault Refusal

/-- An instruction that pushes one word and goes on with `k`, or raises StackFault before any write (R380, R381). -/
def pushThen (opc : Byte) (v : Word) (k : State → State) (s : State) : Result :=
  if s.pushFits 2 then .next (k (s.push16 v)) else .next (s.raise .stackFault opc)

/-- An instruction that pops one word, moves SP by 2 and by `extra` more bytes, and goes on with `k`, or raises StackFault
before any write (R380, R382; 46_control_transfer.md R426). -/
def popThen (opc : Byte) (extra : Word) (k : Word → State → State) (s : State) : Result :=
  if s.popFits (2 + extra.toNat) then .next (k s.stackTop (s.setX16 .sp (s.x16 .sp + 2 + extra)))
  else .next (s.raise .stackFault opc)

end Sys2Proof.Machine
end

