-- ==== Sys2Proof/Machine/Operands.lean ====
section
/-! DEFINITION. The operand forms: effective addresses, the segment of a data access, r/m operands and the operand pairs
of the two-operand instructions (30_encoding.md R124 to R132). -/

namespace Sys2Proof.Machine

/-- The register sum of an effective address (R125). -/
def State.eaBase (s : State) : EaBase → Word
  | .bxSi => s.x16 .bx + s.x16 .si
  | .bxDi => s.x16 .bx + s.x16 .di
  | .bpSi => s.x16 .bp + s.x16 .si
  | .bpDi => s.x16 .bp + s.x16 .di
  | .si => s.x16 .si
  | .di => s.x16 .di
  | .bp => s.x16 .bp
  | .bx => s.x16 .bx

/-- The effective address (16 bits, sums mod 65536) of a memory operand (R125). -/
def State.ea (s : State) : MemRef → Word
  | .base b => s.eaBase b
  | .direct off => off
  | .disp8 b d => s.eaBase b + sext16 d
  | .disp16 b d => s.eaBase b + d

/-- The segment value of a data operand: DS, also for the BP forms, or the overriding segment register (R126, R131). -/
def State.dataSeg (s : State) : Word :=
  match s.segOverride with
  | none => s.sreg .ds
  | some r => s.sreg r

/-- An r/m operand with its segment and effective address computed: once per instruction, from register values before any
write (R128). -/
inductive Place (ρ : Type) where
  | reg (r : ρ)
  | mem (seg off : Word)
  deriving DecidableEq, Repr

def State.place {ρ : Type} (s : State) : Rm ρ → Place ρ
  | .reg r => .reg r
  | .mem m => .mem s.dataSeg (s.ea m)

def State.readPlace8 (s : State) : Place Reg8 → Byte
  | .reg r => s.x8 r
  | .mem seg off => s.memRead8 seg off

def State.readPlace16 (s : State) : Place Reg16 → Word
  | .reg r => s.x16 r
  | .mem seg off => s.memRead16 seg off

def State.writePlace8 (s : State) (p : Place Reg8) (v : Byte) : State :=
  match p with
  | .reg r => s.setX8 r v
  | .mem seg off => s.memWrite8 seg off v

def State.writePlace16 (s : State) (p : Place Reg16) (v : Word) : State :=
  match p with
  | .reg r => s.setX16 r v
  | .mem seg off => s.memWrite16 seg off v

/-- `rd_rm(8)` (R128). -/
def State.rdRm8 (s : State) (rm : Rm8) : Byte := s.readPlace8 (s.place rm)

/-- `rd_rm(16)` (R128). -/
def State.rdRm16 (s : State) (rm : Rm16) : Word := s.readPlace16 (s.place rm)

/-- `wr_rm(8, v)` (R128). -/
def State.wrRm8 (s : State) (rm : Rm8) (v : Byte) : State := s.writePlace8 (s.place rm) v

/-- `wr_rm(16, v)` (R128). -/
def State.wrRm16 (s : State) (rm : Rm16) (v : Word) : State := s.writePlace16 (s.place rm) v

/-- A destination and the two values of a two-operand instruction, both read before anything is written (R132). -/
structure OperandPair (ρ : Type) (w : Nat) where
  dest : Place ρ
  a : BitVec w
  b : BitVec w

/-- Form 0: r/m8, r8. -/
def State.pairRm8R8 (s : State) (rm : Rm8) (r : Reg8) : OperandPair Reg8 8 := ⟨s.place rm, s.rdRm8 rm, s.x8 r⟩

/-- Form 1: r/m16, r16. -/
def State.pairRm16R16 (s : State) (rm : Rm16) (r : Reg16) : OperandPair Reg16 16 := ⟨s.place rm, s.rdRm16 rm, s.x16 r⟩

/-- Form 2: r8, r/m8. -/
def State.pairR8Rm8 (s : State) (r : Reg8) (rm : Rm8) : OperandPair Reg8 8 := ⟨.reg r, s.x8 r, s.rdRm8 rm⟩

/-- Form 3: r16, r/m16. -/
def State.pairR16Rm16 (s : State) (r : Reg16) (rm : Rm16) : OperandPair Reg16 16 := ⟨.reg r, s.x16 r, s.rdRm16 rm⟩

/-- Form 4: AL, imm8. -/
def State.pairAlImm8 (s : State) (imm : Byte) : OperandPair Reg8 8 := ⟨.reg .al, s.x8 .al, imm⟩

/-- Form 5: AX, imm16. -/
def State.pairAxImm16 (s : State) (imm : Word) : OperandPair Reg16 16 := ⟨.reg .ax, s.x16 .ax, imm⟩

/-- Opcode 80: r/m8, imm8. -/
def State.pairRm8Imm8 (s : State) (rm : Rm8) (imm : Byte) : OperandPair Reg8 8 := ⟨s.place rm, s.rdRm8 rm, imm⟩

/-- Opcode 81: r/m16, imm16. -/
def State.pairRm16Imm16 (s : State) (rm : Rm16) (imm : Word) : OperandPair Reg16 16 := ⟨s.place rm, s.rdRm16 rm, imm⟩

/-- Opcode 83: r/m16 and the sign-extended imm8. -/
def State.pairRm16Imm8 (s : State) (rm : Rm16) (imm : Byte) : OperandPair Reg16 16 :=
  ⟨s.place rm, s.rdRm16 rm, sext16 imm⟩

/-- `trunc_16(nextIP + sext_16(rel8))` (R129). -/
def State.target8 (s : State) (rel : Byte) : Word := s.archIp + sext16 rel

/-- `trunc_16(nextIP + rel16)` (R129). -/
def State.target16 (s : State) (rel : Word) : Word := s.archIp + rel

end Sys2Proof.Machine
end

