-- ==== Sys2Proof/Machine/Flags.lean ====
section
/-! DEFINITION. The ALU and the flags (41_alu_flags.md R240 to R255), the FLAGS word (10_state.md R41, R42), and the three
ways an ALU result is written. Sums, differences and products are exact numbers first and are narrowed at the end. -/

namespace Sys2Proof.Machine

/-! ## Result flags -/

/-- The number of one bits among bits 7:0, whatever the width. -/
def popcount8 {w : Nat} (r : BitVec w) : Nat := (List.range 8).countP fun i => r.getLsbD i

/-- `parity(r)` (R240). -/
def parity {w : Nat} (r : BitVec w) : Bool := popcount8 r % 2 == 0

/-- `zero(W, r)` (R241). -/
def isZero {w : Nat} (r : BitVec w) : Bool := r == 0

/-- `sign(W, r)` (R241). -/
def signBit {w : Nat} (r : BitVec w) : Bool := r.msb

/-- The six arithmetic flags an ALU function returns. -/
structure AluFlags where
  cf : Bool
  pf : Bool
  af : Bool
  zf : Bool
  sf : Bool
  ovf : Bool
  deriving DecidableEq, Repr

/-- A result of width W with its flags. -/
structure AluOut (w : Nat) where
  result : BitVec w
  flags : AluFlags

/-- The flags of a result `r` with CF, AF and O given and PF, Z and S from the result (R242). -/
def flagsOf {w : Nat} (r : BitVec w) (cf af ovf : Bool) : AluFlags :=
  { cf, af, ovf, pf := parity r, zf := isZero r, sf := signBit r }

/-! ## The ALU functions -/

/-- `add(W, a, b, cin)` (R243). -/
def aluAdd {w : Nat} (a b : BitVec w) (cin : Bool) : AluOut w :=
  let s := a.toNat + b.toNat + cin.toNat
  let r := BitVec.ofNat w s
  { result := r
    flags := flagsOf r (decide (2 ^ w ≤ s)) ((a ^^^ b ^^^ r).getLsbD 4) (a.msb == b.msb && r.msb != a.msb) }

/-- `sub(W, a, b, bin)` (R244). -/
def aluSub {w : Nat} (a b : BitVec w) (bin : Bool) : AluOut w :=
  let d : Int := (a.toNat : Int) - b.toNat - bin.toNat
  let r := BitVec.ofInt w d
  { result := r
    flags := flagsOf r (decide (d < 0)) ((a ^^^ b ^^^ r).getLsbD 4) (a.msb != b.msb && r.msb != a.msb) }

/-- `logic(W, r)` (R245). -/
def aluLogic {w : Nat} (r : BitVec w) : AluOut w := { result := r, flags := flagsOf r false false false }

/-- `mulFlags(W, p, signed)` on the 2W-bit product `p` (R246): unsigned, CF says that the high half is not 0; signed, that
it is not the sign-extension of the low half. -/
def mulFlags (w : Nat) (p : BitVec (2 * w)) (signed : Bool) : AluFlags :=
  let lo : BitVec w := p.setWidth w
  let tooWide := if signed then decide (p.toInt ≠ lo.toInt) else decide (p.extractLsb' w w ≠ 0)
  flagsOf p tooWide false tooWide

/-- `divFlags(W, q)` (R247). -/
def divFlags {w : Nat} (q : BitVec w) : AluFlags := flagsOf q false false false

/-! ## Writing the flags -/

/-- CF, PF, AF, Z, S and O are written; TF, IF and DF keep their values (R250). -/
def Flags.writeSix (f : Flags) (a : AluFlags) : Flags :=
  { f with cf := a.cf, pf := a.pf, af := a.af, zf := a.zf, sf := a.sf, ovf := a.ovf }

/-- As `writeSix`, but CF keeps its value (R251). -/
def Flags.writeFive (f : Flags) (a : AluFlags) : Flags :=
  { f with pf := a.pf, af := a.af, zf := a.zf, sf := a.sf, ovf := a.ovf }

/-- Write the result to its destination and the six flags. -/
def aluWrite8 (f : Byte → Byte → AluOut 8) (p : OperandPair Reg8 8) (s : State) : Result :=
  let out := f p.a p.b
  .next ((s.writePlace8 p.dest out.result).setFlags (s.flags.writeSix out.flags))

def aluWrite16 (f : Word → Word → AluOut 16) (p : OperandPair Reg16 16) (s : State) : Result :=
  let out := f p.a p.b
  .next ((s.writePlace16 p.dest out.result).setFlags (s.flags.writeSix out.flags))

/-- Write the six flags and discard the result (CMP and TEST). -/
def aluFlags8 (f : Byte → Byte → AluOut 8) (p : OperandPair Reg8 8) (s : State) : Result :=
  .next (s.setFlags (s.flags.writeSix (f p.a p.b).flags))

def aluFlags16 (f : Word → Word → AluOut 16) (p : OperandPair Reg16 16) (s : State) : Result :=
  .next (s.setFlags (s.flags.writeSix (f p.a p.b).flags))

/-! ## The FLAGS word -/

/-- `b << k` for one flag bit. -/
def flagBit (b : Bool) (k : Nat) : Word := (BitVec.ofBool b).setWidth 16 <<< k

/-- `flagsWord()` (R41): bits 15:12 and 1 read 1, bits 5 and 3 read 0. -/
def Flags.word (f : Flags) : Word :=
  0xF000 ||| flagBit f.ovf 11 ||| flagBit f.df 10 ||| flagBit f.ief 9 ||| flagBit f.tf 8 ||| flagBit f.sf 7 |||
    flagBit f.zf 6 ||| flagBit f.af 4 ||| flagBit f.pf 2 ||| 0x0002 ||| flagBit f.cf 0

/-- `setFlagsWord(v)` (R41): bits 1, 3, 5 and 12-15 of `v` are ignored. -/
def Flags.ofWord (v : Word) : Flags :=
  { cf := v.getLsbD 0, pf := v.getLsbD 2, af := v.getLsbD 4, zf := v.getLsbD 6, sf := v.getLsbD 7, tf := v.getLsbD 8,
    ief := v.getLsbD 9, df := v.getLsbD 10, ovf := v.getLsbD 11 }

/-! ## Conditions -/

/-- The sixteen conditions of Jcc, by `cc = opcode[3:0]` (R255). -/
def Flags.cond (f : Flags) (cc : BitVec 4) : Bool :=
  match cc.toNat with
  | 0x0 => f.ovf
  | 0x1 => !f.ovf
  | 0x2 => f.cf
  | 0x3 => !f.cf
  | 0x4 => f.zf
  | 0x5 => !f.zf
  | 0x6 => f.cf || f.zf
  | 0x7 => !f.cf && !f.zf
  | 0x8 => f.sf
  | 0x9 => !f.sf
  | 0xA => f.pf
  | 0xB => !f.pf
  | 0xC => f.sf != f.ovf
  | 0xD => f.sf == f.ovf
  | 0xE => f.zf || f.sf != f.ovf
  | _ => !f.zf && f.sf == f.ovf

end Sys2Proof.Machine
end

