-- ==== Sys2Proof/Machine/Arithmetic.lean ====
section
/-! DEFINITION. Arithmetic (43_arithmetic.md R320 to R331). -/

namespace Sys2Proof.Machine

/-- ADD r/m8, r8: 00 /r (R320). -/
def execAddRm8R8 (rm : Rm8) (r : Reg8) (s : State) : Result := aluWrite8 (aluAdd · · false) (s.pairRm8R8 rm r) s

/-- ADD r/m16, r16: 01 /r (R320). -/
def execAddRm16R16 (rm : Rm16) (r : Reg16) (s : State) : Result :=
  aluWrite16 (aluAdd · · false) (s.pairRm16R16 rm r) s

/-- ADD r8, r/m8: 02 /r (R320). -/
def execAddR8Rm8 (r : Reg8) (rm : Rm8) (s : State) : Result := aluWrite8 (aluAdd · · false) (s.pairR8Rm8 r rm) s

/-- ADD r16, r/m16: 03 /r (R320). -/
def execAddR16Rm16 (r : Reg16) (rm : Rm16) (s : State) : Result :=
  aluWrite16 (aluAdd · · false) (s.pairR16Rm16 r rm) s

/-- ADD AL, imm8: 04 ib (R320). -/
def execAddAlImm8 (imm : Byte) (s : State) : Result := aluWrite8 (aluAdd · · false) (s.pairAlImm8 imm) s

/-- ADD AX, imm16: 05 iw (R320). -/
def execAddAxImm16 (imm : Word) (s : State) : Result := aluWrite16 (aluAdd · · false) (s.pairAxImm16 imm) s

/-- ADD r/m8, imm8: 80 /0 ib (R320). -/
def execAddRm8Imm8 (rm : Rm8) (imm : Byte) (s : State) : Result :=
  aluWrite8 (aluAdd · · false) (s.pairRm8Imm8 rm imm) s

/-- ADD r/m16, imm16: 81 /0 iw (R320). -/
def execAddRm16Imm16 (rm : Rm16) (imm : Word) (s : State) : Result :=
  aluWrite16 (aluAdd · · false) (s.pairRm16Imm16 rm imm) s

/-- ADD r/m16, imm8: 83 /0 ib (R320). -/
def execAddRm16Imm8 (rm : Rm16) (imm : Byte) (s : State) : Result :=
  aluWrite16 (aluAdd · · false) (s.pairRm16Imm8 rm imm) s

/-- ADC r/m8, r8: 10 /r (R321). -/
def execAdcRm8R8 (rm : Rm8) (r : Reg8) (s : State) : Result := aluWrite8 (aluAdd · · s.flags.cf) (s.pairRm8R8 rm r) s

/-- ADC r/m16, r16: 11 /r (R321). -/
def execAdcRm16R16 (rm : Rm16) (r : Reg16) (s : State) : Result :=
  aluWrite16 (aluAdd · · s.flags.cf) (s.pairRm16R16 rm r) s

/-- ADC r8, r/m8: 12 /r (R321). -/
def execAdcR8Rm8 (r : Reg8) (rm : Rm8) (s : State) : Result := aluWrite8 (aluAdd · · s.flags.cf) (s.pairR8Rm8 r rm) s

/-- ADC r16, r/m16: 13 /r (R321). -/
def execAdcR16Rm16 (r : Reg16) (rm : Rm16) (s : State) : Result :=
  aluWrite16 (aluAdd · · s.flags.cf) (s.pairR16Rm16 r rm) s

/-- ADC AL, imm8: 14 ib (R321). -/
def execAdcAlImm8 (imm : Byte) (s : State) : Result := aluWrite8 (aluAdd · · s.flags.cf) (s.pairAlImm8 imm) s

/-- ADC AX, imm16: 15 iw (R321). -/
def execAdcAxImm16 (imm : Word) (s : State) : Result := aluWrite16 (aluAdd · · s.flags.cf) (s.pairAxImm16 imm) s

/-- ADC r/m8, imm8: 80 /2 ib (R321). -/
def execAdcRm8Imm8 (rm : Rm8) (imm : Byte) (s : State) : Result :=
  aluWrite8 (aluAdd · · s.flags.cf) (s.pairRm8Imm8 rm imm) s

/-- ADC r/m16, imm16: 81 /2 iw (R321). -/
def execAdcRm16Imm16 (rm : Rm16) (imm : Word) (s : State) : Result :=
  aluWrite16 (aluAdd · · s.flags.cf) (s.pairRm16Imm16 rm imm) s

/-- ADC r/m16, imm8: 83 /2 ib (R321). -/
def execAdcRm16Imm8 (rm : Rm16) (imm : Byte) (s : State) : Result :=
  aluWrite16 (aluAdd · · s.flags.cf) (s.pairRm16Imm8 rm imm) s

/-- SUB r/m8, r8: 28 /r (R322). -/
def execSubRm8R8 (rm : Rm8) (r : Reg8) (s : State) : Result := aluWrite8 (aluSub · · false) (s.pairRm8R8 rm r) s

/-- SUB r/m16, r16: 29 /r (R322). -/
def execSubRm16R16 (rm : Rm16) (r : Reg16) (s : State) : Result :=
  aluWrite16 (aluSub · · false) (s.pairRm16R16 rm r) s

/-- SUB r8, r/m8: 2A /r (R322). -/
def execSubR8Rm8 (r : Reg8) (rm : Rm8) (s : State) : Result := aluWrite8 (aluSub · · false) (s.pairR8Rm8 r rm) s

/-- SUB r16, r/m16: 2B /r (R322). -/
def execSubR16Rm16 (r : Reg16) (rm : Rm16) (s : State) : Result :=
  aluWrite16 (aluSub · · false) (s.pairR16Rm16 r rm) s

/-- SUB AL, imm8: 2C ib (R322). -/
def execSubAlImm8 (imm : Byte) (s : State) : Result := aluWrite8 (aluSub · · false) (s.pairAlImm8 imm) s

/-- SUB AX, imm16: 2D iw (R322). -/
def execSubAxImm16 (imm : Word) (s : State) : Result := aluWrite16 (aluSub · · false) (s.pairAxImm16 imm) s

/-- SUB r/m8, imm8: 80 /5 ib (R322). -/
def execSubRm8Imm8 (rm : Rm8) (imm : Byte) (s : State) : Result :=
  aluWrite8 (aluSub · · false) (s.pairRm8Imm8 rm imm) s

/-- SUB r/m16, imm16: 81 /5 iw (R322). -/
def execSubRm16Imm16 (rm : Rm16) (imm : Word) (s : State) : Result :=
  aluWrite16 (aluSub · · false) (s.pairRm16Imm16 rm imm) s

/-- SUB r/m16, imm8: 83 /5 ib (R322). -/
def execSubRm16Imm8 (rm : Rm16) (imm : Byte) (s : State) : Result :=
  aluWrite16 (aluSub · · false) (s.pairRm16Imm8 rm imm) s

/-- SBB r/m8, r8: 18 /r (R323). -/
def execSbbRm8R8 (rm : Rm8) (r : Reg8) (s : State) : Result := aluWrite8 (aluSub · · s.flags.cf) (s.pairRm8R8 rm r) s

/-- SBB r/m16, r16: 19 /r (R323). -/
def execSbbRm16R16 (rm : Rm16) (r : Reg16) (s : State) : Result :=
  aluWrite16 (aluSub · · s.flags.cf) (s.pairRm16R16 rm r) s

/-- SBB r8, r/m8: 1A /r (R323). -/
def execSbbR8Rm8 (r : Reg8) (rm : Rm8) (s : State) : Result := aluWrite8 (aluSub · · s.flags.cf) (s.pairR8Rm8 r rm) s

/-- SBB r16, r/m16: 1B /r (R323). -/
def execSbbR16Rm16 (r : Reg16) (rm : Rm16) (s : State) : Result :=
  aluWrite16 (aluSub · · s.flags.cf) (s.pairR16Rm16 r rm) s

/-- SBB AL, imm8: 1C ib (R323). -/
def execSbbAlImm8 (imm : Byte) (s : State) : Result := aluWrite8 (aluSub · · s.flags.cf) (s.pairAlImm8 imm) s

/-- SBB AX, imm16: 1D iw (R323). -/
def execSbbAxImm16 (imm : Word) (s : State) : Result := aluWrite16 (aluSub · · s.flags.cf) (s.pairAxImm16 imm) s

/-- SBB r/m8, imm8: 80 /3 ib (R323). -/
def execSbbRm8Imm8 (rm : Rm8) (imm : Byte) (s : State) : Result :=
  aluWrite8 (aluSub · · s.flags.cf) (s.pairRm8Imm8 rm imm) s

/-- SBB r/m16, imm16: 81 /3 iw (R323). -/
def execSbbRm16Imm16 (rm : Rm16) (imm : Word) (s : State) : Result :=
  aluWrite16 (aluSub · · s.flags.cf) (s.pairRm16Imm16 rm imm) s

/-- SBB r/m16, imm8: 83 /3 ib (R323). -/
def execSbbRm16Imm8 (rm : Rm16) (imm : Byte) (s : State) : Result :=
  aluWrite16 (aluSub · · s.flags.cf) (s.pairRm16Imm8 rm imm) s

/-- CMP r/m8, r8: 38 /r (R324). -/
def execCmpRm8R8 (rm : Rm8) (r : Reg8) (s : State) : Result := aluFlags8 (aluSub · · false) (s.pairRm8R8 rm r) s

/-- CMP r/m16, r16: 39 /r (R324). -/
def execCmpRm16R16 (rm : Rm16) (r : Reg16) (s : State) : Result :=
  aluFlags16 (aluSub · · false) (s.pairRm16R16 rm r) s

/-- CMP r8, r/m8: 3A /r (R324). -/
def execCmpR8Rm8 (r : Reg8) (rm : Rm8) (s : State) : Result := aluFlags8 (aluSub · · false) (s.pairR8Rm8 r rm) s

/-- CMP r16, r/m16: 3B /r (R324). -/
def execCmpR16Rm16 (r : Reg16) (rm : Rm16) (s : State) : Result :=
  aluFlags16 (aluSub · · false) (s.pairR16Rm16 r rm) s

/-- CMP AL, imm8: 3C ib (R324). -/
def execCmpAlImm8 (imm : Byte) (s : State) : Result := aluFlags8 (aluSub · · false) (s.pairAlImm8 imm) s

/-- CMP AX, imm16: 3D iw (R324). -/
def execCmpAxImm16 (imm : Word) (s : State) : Result := aluFlags16 (aluSub · · false) (s.pairAxImm16 imm) s

/-- CMP r/m8, imm8: 80 /7 ib (R324). -/
def execCmpRm8Imm8 (rm : Rm8) (imm : Byte) (s : State) : Result :=
  aluFlags8 (aluSub · · false) (s.pairRm8Imm8 rm imm) s

/-- CMP r/m16, imm16: 81 /7 iw (R324). -/
def execCmpRm16Imm16 (rm : Rm16) (imm : Word) (s : State) : Result :=
  aluFlags16 (aluSub · · false) (s.pairRm16Imm16 rm imm) s

/-- CMP r/m16, imm8: 83 /7 ib (R324). -/
def execCmpRm16Imm8 (rm : Rm16) (imm : Byte) (s : State) : Result :=
  aluFlags16 (aluSub · · false) (s.pairRm16Imm8 rm imm) s

/-- `incdec(8, a, false)` at a place: add 1, CF kept (R325, 41_alu_flags.md R251). -/
def inc8 (p : Place Reg8) (s : State) : Result :=
  let out := aluAdd (s.readPlace8 p) 1 false
  .next ((s.writePlace8 p out.result).setFlags (s.flags.writeFive out.flags))

def inc16 (p : Place Reg16) (s : State) : Result :=
  let out := aluAdd (s.readPlace16 p) 1 false
  .next ((s.writePlace16 p out.result).setFlags (s.flags.writeFive out.flags))

/-- `incdec(8, a, true)` at a place: subtract 1, CF kept (R326, 41_alu_flags.md R251). -/
def dec8 (p : Place Reg8) (s : State) : Result :=
  let out := aluSub (s.readPlace8 p) 1 false
  .next ((s.writePlace8 p out.result).setFlags (s.flags.writeFive out.flags))

def dec16 (p : Place Reg16) (s : State) : Result :=
  let out := aluSub (s.readPlace16 p) 1 false
  .next ((s.writePlace16 p out.result).setFlags (s.flags.writeFive out.flags))

/-- INC AX: 40 (R325). -/
def execIncAx (s : State) : Result := inc16 (.reg .ax) s

/-- INC CX: 41 (R325). -/
def execIncCx (s : State) : Result := inc16 (.reg .cx) s

/-- INC DX: 42 (R325). -/
def execIncDx (s : State) : Result := inc16 (.reg .dx) s

/-- INC BX: 43 (R325). -/
def execIncBx (s : State) : Result := inc16 (.reg .bx) s

/-- INC SP: 44 (R325). -/
def execIncSp (s : State) : Result := inc16 (.reg .sp) s

/-- INC BP: 45 (R325). -/
def execIncBp (s : State) : Result := inc16 (.reg .bp) s

/-- INC SI: 46 (R325). -/
def execIncSi (s : State) : Result := inc16 (.reg .si) s

/-- INC DI: 47 (R325). -/
def execIncDi (s : State) : Result := inc16 (.reg .di) s

/-- INC r/m8: FE /0 (R325). -/
def execIncRm8 (rm : Rm8) (s : State) : Result := inc8 (s.place rm) s

/-- INC r/m16: FF /0 (R325). -/
def execIncRm16 (rm : Rm16) (s : State) : Result := inc16 (s.place rm) s

/-- DEC AX: 48 (R326). -/
def execDecAx (s : State) : Result := dec16 (.reg .ax) s

/-- DEC CX: 49 (R326). -/
def execDecCx (s : State) : Result := dec16 (.reg .cx) s

/-- DEC DX: 4A (R326). -/
def execDecDx (s : State) : Result := dec16 (.reg .dx) s

/-- DEC BX: 4B (R326). -/
def execDecBx (s : State) : Result := dec16 (.reg .bx) s

/-- DEC SP: 4C (R326). -/
def execDecSp (s : State) : Result := dec16 (.reg .sp) s

/-- DEC BP: 4D (R326). -/
def execDecBp (s : State) : Result := dec16 (.reg .bp) s

/-- DEC SI: 4E (R326). -/
def execDecSi (s : State) : Result := dec16 (.reg .si) s

/-- DEC DI: 4F (R326). -/
def execDecDi (s : State) : Result := dec16 (.reg .di) s

/-- DEC r/m8: FE /1 (R326). -/
def execDecRm8 (rm : Rm8) (s : State) : Result := dec8 (s.place rm) s

/-- DEC r/m16: FF /1 (R326). -/
def execDecRm16 (rm : Rm16) (s : State) : Result := dec16 (s.place rm) s

/-- NEG r/m8: F6 /3 (R327). `sub(W, 0, a, 0)`. -/
def execNegRm8 (rm : Rm8) (s : State) : Result :=
  aluWrite8 (fun z a => aluSub z a false) ⟨s.place rm, 0, s.rdRm8 rm⟩ s

/-- NEG r/m16: F7 /3 (R327). `sub(W, 0, a, 0)`. -/
def execNegRm16 (rm : Rm16) (s : State) : Result :=
  aluWrite16 (fun z a => aluSub z a false) ⟨s.place rm, 0, s.rdRm16 rm⟩ s

/-- The 32-bit number `DX ++ AX`. -/
def State.dxAx (s : State) : BitVec 32 := s.x16 .dx ++ s.x16 .ax

/-- `AX <- p[15:0]; DX <- p[31:16]` (R328). -/
def State.setDxAx (s : State) (p : BitVec 32) : State :=
  (s.setX16 .ax (p.extractLsb' 0 16)).setX16 .dx (p.extractLsb' 16 16)

/-- A byte product: AX and the flags (R328, R329). -/
def mulWrite8 (p : Word) (signed : Bool) (s : State) : Result :=
  .next ((s.setX16 .ax p).setFlags (s.flags.writeSix (mulFlags 8 p signed)))

/-- A word product: DX:AX and the flags (R328, R329). -/
def mulWrite16 (p : BitVec 32) (signed : Bool) (s : State) : Result :=
  .next ((s.setDxAx p).setFlags (s.flags.writeSix (mulFlags 16 p signed)))

/-- MUL r/m8: F6 /4 (R328). -/
def execMulRm8 (rm : Rm8) (s : State) : Result :=
  mulWrite8 (BitVec.ofNat 16 ((s.x8 .al).toNat * (s.rdRm8 rm).toNat)) false s

/-- MUL r/m16: F7 /4 (R328). -/
def execMulRm16 (rm : Rm16) (s : State) : Result :=
  mulWrite16 (BitVec.ofNat 32 ((s.x16 .ax).toNat * (s.rdRm16 rm).toNat)) false s

/-- IMUL r/m8: F6 /5 (R329). -/
def execImulRm8 (rm : Rm8) (s : State) : Result :=
  mulWrite8 (BitVec.ofInt 16 ((s.x8 .al).toInt * (s.rdRm8 rm).toInt)) true s

/-- IMUL r/m16: F7 /5 (R329). -/
def execImulRm16 (rm : Rm16) (s : State) : Result :=
  mulWrite16 (BitVec.ofInt 32 ((s.x16 .ax).toInt * (s.rdRm16 rm).toInt)) true s

/-- `AL <- q; AH <- m` and the flags (R330). -/
def divWrite8 (q m : Byte) (s : State) : Result :=
  .next (((s.setX8 .al q).setX8 .ah m).setFlags (s.flags.writeSix (divFlags q)))

/-- `AX <- q; DX <- m` and the flags (R330). -/
def divWrite16 (q m : Word) (s : State) : Result :=
  .next (((s.setX16 .ax q).setX16 .dx m).setFlags (s.flags.writeSix (divFlags q)))

/-- DIV r/m8: F6 /6 (R330). -/
def execDivRm8 (rm : Rm8) (s : State) : Result :=
  let d := (s.rdRm8 rm).toNat
  let n := (s.x16 .ax).toNat
  if d = 0 ∨ n / d > 0xFF then .next (s.raise .divideFault 0xF6)
  else divWrite8 (BitVec.ofNat 8 (n / d)) (BitVec.ofNat 8 (n % d)) s

/-- DIV r/m16: F7 /6 (R330). -/
def execDivRm16 (rm : Rm16) (s : State) : Result :=
  let d := (s.rdRm16 rm).toNat
  let n := s.dxAx.toNat
  if d = 0 ∨ n / d > 0xFFFF then .next (s.raise .divideFault 0xF7)
  else divWrite16 (BitVec.ofNat 16 (n / d)) (BitVec.ofNat 16 (n % d)) s

/-- IDIV r/m8: F6 /7 (R331). Truncation toward zero; the remainder takes the dividend's sign. -/
def execIdivRm8 (rm : Rm8) (s : State) : Result :=
  let d := (s.rdRm8 rm).toInt
  let n := (s.x16 .ax).toInt
  if d = 0 ∨ n.tdiv d < -0x80 ∨ n.tdiv d > 0x7F then .next (s.raise .divideFault 0xF6)
  else divWrite8 (BitVec.ofInt 8 (n.tdiv d)) (BitVec.ofInt 8 (n.tmod d)) s

/-- IDIV r/m16: F7 /7 (R331). Truncation toward zero; the remainder takes the dividend's sign. -/
def execIdivRm16 (rm : Rm16) (s : State) : Result :=
  let d := (s.rdRm16 rm).toInt
  let n := s.dxAx.toInt
  if d = 0 ∨ n.tdiv d < -0x8000 ∨ n.tdiv d > 0x7FFF then .next (s.raise .divideFault 0xF7)
  else divWrite16 (BitVec.ofInt 16 (n.tdiv d)) (BitVec.ofInt 16 (n.tmod d)) s

end Sys2Proof.Machine
end

