-- ==== Sys2Proof/Machine/ControlTransfer.lean ====
section
/-! DEFINITION. Control transfer (46_control_transfer.md R400 to R426). When `exec` runs, `archIp` is `nextIP` (40_step_and_queue.md R214). -/

namespace Sys2Proof.Machine

/-- A transfer to a rel8 target when the condition holds; otherwise nothing happens (R401). -/
def jumpIf (c : Bool) (rel : Byte) (s : State) : Result := .next (if c then s.jump (s.target8 rel) else s)

/-- `CX <- trunc_16(CX - 1)`, and then a transfer when CX is not 0 and `c` holds (R419 to R421). -/
def loopIf (c : Bool) (rel : Byte) (s : State) : Result :=
  let t := s.setX16 .cx (s.x16 .cx - 1)
  jumpIf (t.x16 .cx != 0 && c) rel t

/-- `push16(nextIP); jump(t)`, or StackFault before anything changes (R423, R424). -/
def call (opc : Byte) (target : Word) (s : State) : Result := pushThen opc s.archIp (fun t => t.jump target) s

/-- JMP rel8: EB rel8 (R400). -/
def execJmpRel8 (rel : Byte) (s : State) : Result := .next (s.jump (s.target8 rel))

/-- JMP rel16: E9 rel16 (R400). -/
def execJmpRel16 (rel : Word) (s : State) : Result := .next (s.jump (s.target16 rel))

/-- JMP r/m16: FF /4 (R402). -/
def execJmpRm16 (rm : Rm16) (s : State) : Result := .next (s.jump (s.rdRm16 rm))

/-- JO rel8: 70 rel8 (R403). -/
def execJoRel8 (rel : Byte) (s : State) : Result := jumpIf (s.flags.cond 0x0) rel s

/-- JNO rel8: 71 rel8 (R404). -/
def execJnoRel8 (rel : Byte) (s : State) : Result := jumpIf (s.flags.cond 0x1) rel s

/-- JB rel8: 72 rel8 (R405). -/
def execJbRel8 (rel : Byte) (s : State) : Result := jumpIf (s.flags.cond 0x2) rel s

/-- JAE rel8: 73 rel8 (R406). -/
def execJaeRel8 (rel : Byte) (s : State) : Result := jumpIf (s.flags.cond 0x3) rel s

/-- JE rel8: 74 rel8 (R407). -/
def execJeRel8 (rel : Byte) (s : State) : Result := jumpIf (s.flags.cond 0x4) rel s

/-- JNE rel8: 75 rel8 (R408). -/
def execJneRel8 (rel : Byte) (s : State) : Result := jumpIf (s.flags.cond 0x5) rel s

/-- JBE rel8: 76 rel8 (R409). -/
def execJbeRel8 (rel : Byte) (s : State) : Result := jumpIf (s.flags.cond 0x6) rel s

/-- JA rel8: 77 rel8 (R410). -/
def execJaRel8 (rel : Byte) (s : State) : Result := jumpIf (s.flags.cond 0x7) rel s

/-- JS rel8: 78 rel8 (R411). -/
def execJsRel8 (rel : Byte) (s : State) : Result := jumpIf (s.flags.cond 0x8) rel s

/-- JNS rel8: 79 rel8 (R412). -/
def execJnsRel8 (rel : Byte) (s : State) : Result := jumpIf (s.flags.cond 0x9) rel s

/-- JP rel8: 7A rel8 (R413). -/
def execJpRel8 (rel : Byte) (s : State) : Result := jumpIf (s.flags.cond 0xA) rel s

/-- JNP rel8: 7B rel8 (R414). -/
def execJnpRel8 (rel : Byte) (s : State) : Result := jumpIf (s.flags.cond 0xB) rel s

/-- JL rel8: 7C rel8 (R415). -/
def execJlRel8 (rel : Byte) (s : State) : Result := jumpIf (s.flags.cond 0xC) rel s

/-- JGE rel8: 7D rel8 (R416). -/
def execJgeRel8 (rel : Byte) (s : State) : Result := jumpIf (s.flags.cond 0xD) rel s

/-- JLE rel8: 7E rel8 (R417). -/
def execJleRel8 (rel : Byte) (s : State) : Result := jumpIf (s.flags.cond 0xE) rel s

/-- JG rel8: 7F rel8 (R418). -/
def execJgRel8 (rel : Byte) (s : State) : Result := jumpIf (s.flags.cond 0xF) rel s

/-- LOOP rel8: E2 rel8 (R419). -/
def execLoopRel8 (rel : Byte) (s : State) : Result := loopIf true rel s

/-- LOOPE rel8: E1 rel8 (R420). -/
def execLoopeRel8 (rel : Byte) (s : State) : Result := loopIf s.flags.zf rel s

/-- LOOPNE rel8: E0 rel8 (R421). -/
def execLoopneRel8 (rel : Byte) (s : State) : Result := loopIf (!s.flags.zf) rel s

/-- JCXZ rel8: E3 rel8 (R422). -/
def execJcxzRel8 (rel : Byte) (s : State) : Result := jumpIf (s.x16 .cx == 0) rel s

/-- CALL rel16: E8 rel16 (R423). -/
def execCallRel16 (rel : Word) (s : State) : Result := call 0xE8 (s.target16 rel) s

/-- CALL r/m16: FF /2 (R424). The target is read before the push. -/
def execCallRm16 (rm : Rm16) (s : State) : Result := call 0xFF (s.rdRm16 rm) s

/-- RET: C3 (R425). -/
def execRet (s : State) : Result := popThen 0xC3 0 (fun t u => u.jump t) s

/-- RET imm16: C2 iw (R426). SP moves by 2 + imm16. -/
def execRetImm16 (imm : Word) (s : State) : Result := popThen 0xC2 imm (fun t u => u.jump t) s

end Sys2Proof.Machine
end

