-- ==== Sys2Proof/Machine/DataMovement.lean ====
section
/-! DEFINITION. Data movement (42_data_movement.md R280 to R296). -/

namespace Sys2Proof.Machine

/-- `a := rd_rm(8); b := rd_reg(8); wr_reg(8, a); wr_rm(8, b)`: both reads come before both writes, and the address of
the r/m operand is computed before them (R287). -/
def xchg8 (rm : Rm8) (r : Reg8) (s : State) : Result :=
  let p := s.place rm
  .next ((s.setX8 r (s.readPlace8 p)).writePlace8 p (s.x8 r))

/-- As `xchg8`, for words (R287). -/
def xchg16 (rm : Rm16) (r : Reg16) (s : State) : Result :=
  let p := s.place rm
  .next ((s.setX16 r (s.readPlace16 p)).writePlace16 p (s.x16 r))

/-- `t := AX; AX <- x16[r]; x16[r] <- t` (R288). -/
def xchgAx (r : Reg16) (s : State) : Result := .next ((s.setX16 .ax (s.x16 r)).setX16 r (s.x16 .ax))

/-- `S<<7 | Z<<6 | AF<<4 | PF<<2 | 0x02 | CF` is the low byte of the FLAGS word (10_state.md R42). -/
def Flags.lowByte (f : Flags) : Byte := loByte f.word

/-- SAHF's five flags from a byte; O, TF, IF and DF keep their values (R296). -/
def Flags.loadLow (f : Flags) (v : Byte) : Flags :=
  { f with sf := v.getLsbD 7, zf := v.getLsbD 6, af := v.getLsbD 4, pf := v.getLsbD 2, cf := v.getLsbD 0 }

/-- MOV r/m8, r8: 88 /r (R280). -/
def execMovRm8R8 (rm : Rm8) (r : Reg8) (s : State) : Result := .next (s.wrRm8 rm (s.x8 r))

/-- MOV r/m16, r16: 89 /r (R280). -/
def execMovRm16R16 (rm : Rm16) (r : Reg16) (s : State) : Result := .next (s.wrRm16 rm (s.x16 r))

/-- MOV r8, r/m8: 8A /r (R280). -/
def execMovR8Rm8 (r : Reg8) (rm : Rm8) (s : State) : Result := .next (s.setX8 r (s.rdRm8 rm))

/-- MOV r16, r/m16: 8B /r (R280). -/
def execMovR16Rm16 (r : Reg16) (rm : Rm16) (s : State) : Result := .next (s.setX16 r (s.rdRm16 rm))

/-- MOV AL, imm8: B0 ib (R281). -/
def execMovAlImm8 (imm : Byte) (s : State) : Result := .next (s.setX8 .al imm)

/-- MOV CL, imm8: B1 ib (R281). -/
def execMovClImm8 (imm : Byte) (s : State) : Result := .next (s.setX8 .cl imm)

/-- MOV DL, imm8: B2 ib (R281). -/
def execMovDlImm8 (imm : Byte) (s : State) : Result := .next (s.setX8 .dl imm)

/-- MOV BL, imm8: B3 ib (R281). -/
def execMovBlImm8 (imm : Byte) (s : State) : Result := .next (s.setX8 .bl imm)

/-- MOV AH, imm8: B4 ib (R281). -/
def execMovAhImm8 (imm : Byte) (s : State) : Result := .next (s.setX8 .ah imm)

/-- MOV CH, imm8: B5 ib (R281). -/
def execMovChImm8 (imm : Byte) (s : State) : Result := .next (s.setX8 .ch imm)

/-- MOV DH, imm8: B6 ib (R281). -/
def execMovDhImm8 (imm : Byte) (s : State) : Result := .next (s.setX8 .dh imm)

/-- MOV BH, imm8: B7 ib (R281). -/
def execMovBhImm8 (imm : Byte) (s : State) : Result := .next (s.setX8 .bh imm)

/-- MOV AX, imm16: B8 iw (R281). -/
def execMovAxImm16 (imm : Word) (s : State) : Result := .next (s.setX16 .ax imm)

/-- MOV CX, imm16: B9 iw (R281). -/
def execMovCxImm16 (imm : Word) (s : State) : Result := .next (s.setX16 .cx imm)

/-- MOV DX, imm16: BA iw (R281). -/
def execMovDxImm16 (imm : Word) (s : State) : Result := .next (s.setX16 .dx imm)

/-- MOV BX, imm16: BB iw (R281). -/
def execMovBxImm16 (imm : Word) (s : State) : Result := .next (s.setX16 .bx imm)

/-- MOV SP, imm16: BC iw (R281). -/
def execMovSpImm16 (imm : Word) (s : State) : Result := .next (s.setX16 .sp imm)

/-- MOV BP, imm16: BD iw (R281). -/
def execMovBpImm16 (imm : Word) (s : State) : Result := .next (s.setX16 .bp imm)

/-- MOV SI, imm16: BE iw (R281). -/
def execMovSiImm16 (imm : Word) (s : State) : Result := .next (s.setX16 .si imm)

/-- MOV DI, imm16: BF iw (R281). -/
def execMovDiImm16 (imm : Word) (s : State) : Result := .next (s.setX16 .di imm)

/-- MOV r/m8, imm8: C6 /0 ib (R282). -/
def execMovRm8Imm8 (rm : Rm8) (imm : Byte) (s : State) : Result := .next (s.wrRm8 rm imm)

/-- MOV r/m16, imm16: C7 /0 iw (R282). -/
def execMovRm16Imm16 (rm : Rm16) (imm : Word) (s : State) : Result := .next (s.wrRm16 rm imm)

/-- MOV r/m16, Sreg: 8C /sr (R283). -/
def execMovRm16Sreg (rm : Rm16) (sr : SegReg) (s : State) : Result := .next (s.wrRm16 rm (s.sreg sr))

/-- MOV ES, r/m16: 8E /0 (R284). -/
def execMovEsRm16 (rm : Rm16) (s : State) : Result := .next (s.setSreg .es (s.rdRm16 rm))

/-- MOV SS/DS, r/m16: 8E /sr, sr = SS or DS (R284). -/
def execMovSsDsRm16 (sr : SegReg) (rm : Rm16) (s : State) : Result := .next (s.setSreg sr (s.rdRm16 rm))

/-- MOV AL, moffs8: A0 moffs16 (R285). -/
def execMovAlMoffs8 (off : Word) (s : State) : Result := .next (s.setX8 .al (s.memRead8 s.dataSeg off))

/-- MOV AX, moffs16: A1 moffs16 (R285). -/
def execMovAxMoffs16 (off : Word) (s : State) : Result := .next (s.setX16 .ax (s.memRead16 s.dataSeg off))

/-- MOV moffs8, AL: A2 moffs16 (R286). -/
def execMovMoffs8Al (off : Word) (s : State) : Result := .next (s.memWrite8 s.dataSeg off (s.x8 .al))

/-- MOV moffs16, AX: A3 moffs16 (R286). -/
def execMovMoffs16Ax (off : Word) (s : State) : Result := .next (s.memWrite16 s.dataSeg off (s.x16 .ax))

/-- XCHG r/m8, r8: 86 /r (R287). -/
def execXchgRm8R8 (rm : Rm8) (r : Reg8) (s : State) : Result := xchg8 rm r s

/-- XCHG r/m16, r16: 87 /r (R287). -/
def execXchgRm16R16 (rm : Rm16) (r : Reg16) (s : State) : Result := xchg16 rm r s

/-- XCHG AX, CX: 91 (R288). -/
def execXchgAxCx (s : State) : Result := xchgAx .cx s

/-- XCHG AX, DX: 92 (R288). -/
def execXchgAxDx (s : State) : Result := xchgAx .dx s

/-- XCHG AX, BX: 93 (R288). -/
def execXchgAxBx (s : State) : Result := xchgAx .bx s

/-- XCHG AX, SP: 94 (R288). -/
def execXchgAxSp (s : State) : Result := xchgAx .sp s

/-- XCHG AX, BP: 95 (R288). -/
def execXchgAxBp (s : State) : Result := xchgAx .bp s

/-- XCHG AX, SI: 96 (R288). -/
def execXchgAxSi (s : State) : Result := xchgAx .si s

/-- XCHG AX, DI: 97 (R288). -/
def execXchgAxDi (s : State) : Result := xchgAx .di s

/-- LEA r16, m: 8D /r, mod != 11 (R289). No memory is accessed. -/
def execLeaR16M (r : Reg16) (m : MemRef) (s : State) : Result := .next (s.setX16 r (s.ea m))

/-- CBW: 98 (R290). -/
def execCbw (s : State) : Result := .next (s.setX16 .ax (sext16 (s.x8 .al)))

/-- CWD: 99 (R291). -/
def execCwd (s : State) : Result := .next (s.setX16 .dx (if (s.x16 .ax).msb then 0xFFFF else 0))

/-- NOP: 90 (R292). Its only effect is that its byte has been consumed. -/
def execNop (s : State) : Result := .next s

/-- LAHF: 9F (R295). -/
def execLahf (s : State) : Result := .next (s.setX8 .ah s.flags.lowByte)

/-- SAHF: 9E (R296). -/
def execSahf (s : State) : Result := .next (s.setFlags (s.flags.loadLow (s.x8 .ah)))

end Sys2Proof.Machine
end

