-- ==== Sys2Proof/Machine/Decoder.lean ====
section
/-! DEFINITION. What the decoder itself does to the state: a segment-override prefix (30_encoding.md R131) and an encoding that is no
instruction (R166). -/

namespace Sys2Proof.Machine

/-- PREFIX ES:: 26 (R131). It selects ES for the instruction it belongs to. -/
def execPrefixEs (s : State) : Result := .next { s with segOverride := some .es }

/-- PREFIX CS:: 2E (R131). It selects CS for the instruction it belongs to. -/
def execPrefixCs (s : State) : Result := .next { s with segOverride := some .cs }

/-- PREFIX SS:: 36 (R131). It selects SS for the instruction it belongs to. -/
def execPrefixSs (s : State) : Result := .next { s with segOverride := some .ss }

/-- PREFIX DS:: 3E (R131). It selects DS for the instruction it belongs to. -/
def execPrefixDs (s : State) : Result := .next { s with segOverride := some .ds }

/-- An encoding that is no instruction: every encoding R166 rejects (R166). It raises InvalidOpcode with the rejected byte
(R167, 60_exceptions.md R501). -/
def execInvalid (opc : Byte) (_modrm : Option Byte) (s : State) : Result := .next (s.raise .invalidOpcode opc)

end Sys2Proof.Machine
end

