-- ==== Sys2Proof/Machine/Logical.lean ====
section
/-! DEFINITION. Logical and test (44_logical.md R360 to R364). -/

namespace Sys2Proof.Machine

/-- AND r/m8, r8: 20 /r (R360). -/
def execAndRm8R8 (rm : Rm8) (r : Reg8) (s : State) : Result :=
  aluWrite8 (fun a b => aluLogic (a &&& b)) (s.pairRm8R8 rm r) s

/-- AND r/m16, r16: 21 /r (R360). -/
def execAndRm16R16 (rm : Rm16) (r : Reg16) (s : State) : Result :=
  aluWrite16 (fun a b => aluLogic (a &&& b)) (s.pairRm16R16 rm r) s

/-- AND r8, r/m8: 22 /r (R360). -/
def execAndR8Rm8 (r : Reg8) (rm : Rm8) (s : State) : Result :=
  aluWrite8 (fun a b => aluLogic (a &&& b)) (s.pairR8Rm8 r rm) s

/-- AND r16, r/m16: 23 /r (R360). -/
def execAndR16Rm16 (r : Reg16) (rm : Rm16) (s : State) : Result :=
  aluWrite16 (fun a b => aluLogic (a &&& b)) (s.pairR16Rm16 r rm) s

/-- AND AL, imm8: 24 ib (R360). -/
def execAndAlImm8 (imm : Byte) (s : State) : Result := aluWrite8 (fun a b => aluLogic (a &&& b)) (s.pairAlImm8 imm) s

/-- AND AX, imm16: 25 iw (R360). -/
def execAndAxImm16 (imm : Word) (s : State) : Result :=
  aluWrite16 (fun a b => aluLogic (a &&& b)) (s.pairAxImm16 imm) s

/-- AND r/m8, imm8: 80 /4 ib (R360). -/
def execAndRm8Imm8 (rm : Rm8) (imm : Byte) (s : State) : Result :=
  aluWrite8 (fun a b => aluLogic (a &&& b)) (s.pairRm8Imm8 rm imm) s

/-- AND r/m16, imm16: 81 /4 iw (R360). -/
def execAndRm16Imm16 (rm : Rm16) (imm : Word) (s : State) : Result :=
  aluWrite16 (fun a b => aluLogic (a &&& b)) (s.pairRm16Imm16 rm imm) s

/-- AND r/m16, imm8: 83 /4 ib (R360). -/
def execAndRm16Imm8 (rm : Rm16) (imm : Byte) (s : State) : Result :=
  aluWrite16 (fun a b => aluLogic (a &&& b)) (s.pairRm16Imm8 rm imm) s

/-- OR r/m8, r8: 08 /r (R361). -/
def execOrRm8R8 (rm : Rm8) (r : Reg8) (s : State) : Result :=
  aluWrite8 (fun a b => aluLogic (a ||| b)) (s.pairRm8R8 rm r) s

/-- OR r/m16, r16: 09 /r (R361). -/
def execOrRm16R16 (rm : Rm16) (r : Reg16) (s : State) : Result :=
  aluWrite16 (fun a b => aluLogic (a ||| b)) (s.pairRm16R16 rm r) s

/-- OR r8, r/m8: 0A /r (R361). -/
def execOrR8Rm8 (r : Reg8) (rm : Rm8) (s : State) : Result :=
  aluWrite8 (fun a b => aluLogic (a ||| b)) (s.pairR8Rm8 r rm) s

/-- OR r16, r/m16: 0B /r (R361). -/
def execOrR16Rm16 (r : Reg16) (rm : Rm16) (s : State) : Result :=
  aluWrite16 (fun a b => aluLogic (a ||| b)) (s.pairR16Rm16 r rm) s

/-- OR AL, imm8: 0C ib (R361). -/
def execOrAlImm8 (imm : Byte) (s : State) : Result := aluWrite8 (fun a b => aluLogic (a ||| b)) (s.pairAlImm8 imm) s

/-- OR AX, imm16: 0D iw (R361). -/
def execOrAxImm16 (imm : Word) (s : State) : Result :=
  aluWrite16 (fun a b => aluLogic (a ||| b)) (s.pairAxImm16 imm) s

/-- OR r/m8, imm8: 80 /1 ib (R361). -/
def execOrRm8Imm8 (rm : Rm8) (imm : Byte) (s : State) : Result :=
  aluWrite8 (fun a b => aluLogic (a ||| b)) (s.pairRm8Imm8 rm imm) s

/-- OR r/m16, imm16: 81 /1 iw (R361). -/
def execOrRm16Imm16 (rm : Rm16) (imm : Word) (s : State) : Result :=
  aluWrite16 (fun a b => aluLogic (a ||| b)) (s.pairRm16Imm16 rm imm) s

/-- OR r/m16, imm8: 83 /1 ib (R361). -/
def execOrRm16Imm8 (rm : Rm16) (imm : Byte) (s : State) : Result :=
  aluWrite16 (fun a b => aluLogic (a ||| b)) (s.pairRm16Imm8 rm imm) s

/-- XOR r/m8, r8: 30 /r (R362). -/
def execXorRm8R8 (rm : Rm8) (r : Reg8) (s : State) : Result :=
  aluWrite8 (fun a b => aluLogic (a ^^^ b)) (s.pairRm8R8 rm r) s

/-- XOR r/m16, r16: 31 /r (R362). -/
def execXorRm16R16 (rm : Rm16) (r : Reg16) (s : State) : Result :=
  aluWrite16 (fun a b => aluLogic (a ^^^ b)) (s.pairRm16R16 rm r) s

/-- XOR r8, r/m8: 32 /r (R362). -/
def execXorR8Rm8 (r : Reg8) (rm : Rm8) (s : State) : Result :=
  aluWrite8 (fun a b => aluLogic (a ^^^ b)) (s.pairR8Rm8 r rm) s

/-- XOR r16, r/m16: 33 /r (R362). -/
def execXorR16Rm16 (r : Reg16) (rm : Rm16) (s : State) : Result :=
  aluWrite16 (fun a b => aluLogic (a ^^^ b)) (s.pairR16Rm16 r rm) s

/-- XOR AL, imm8: 34 ib (R362). -/
def execXorAlImm8 (imm : Byte) (s : State) : Result := aluWrite8 (fun a b => aluLogic (a ^^^ b)) (s.pairAlImm8 imm) s

/-- XOR AX, imm16: 35 iw (R362). -/
def execXorAxImm16 (imm : Word) (s : State) : Result :=
  aluWrite16 (fun a b => aluLogic (a ^^^ b)) (s.pairAxImm16 imm) s

/-- XOR r/m8, imm8: 80 /6 ib (R362). -/
def execXorRm8Imm8 (rm : Rm8) (imm : Byte) (s : State) : Result :=
  aluWrite8 (fun a b => aluLogic (a ^^^ b)) (s.pairRm8Imm8 rm imm) s

/-- XOR r/m16, imm16: 81 /6 iw (R362). -/
def execXorRm16Imm16 (rm : Rm16) (imm : Word) (s : State) : Result :=
  aluWrite16 (fun a b => aluLogic (a ^^^ b)) (s.pairRm16Imm16 rm imm) s

/-- XOR r/m16, imm8: 83 /6 ib (R362). -/
def execXorRm16Imm8 (rm : Rm16) (imm : Byte) (s : State) : Result :=
  aluWrite16 (fun a b => aluLogic (a ^^^ b)) (s.pairRm16Imm8 rm imm) s

/-- TEST r/m8, r8: 84 /r (R363). -/
def execTestRm8R8 (rm : Rm8) (r : Reg8) (s : State) : Result :=
  aluFlags8 (fun a b => aluLogic (a &&& b)) (s.pairRm8R8 rm r) s

/-- TEST r/m16, r16: 85 /r (R363). -/
def execTestRm16R16 (rm : Rm16) (r : Reg16) (s : State) : Result :=
  aluFlags16 (fun a b => aluLogic (a &&& b)) (s.pairRm16R16 rm r) s

/-- TEST AL, imm8: A8 ib (R363). -/
def execTestAlImm8 (imm : Byte) (s : State) : Result := aluFlags8 (fun a b => aluLogic (a &&& b)) (s.pairAlImm8 imm) s

/-- TEST AX, imm16: A9 iw (R363). -/
def execTestAxImm16 (imm : Word) (s : State) : Result :=
  aluFlags16 (fun a b => aluLogic (a &&& b)) (s.pairAxImm16 imm) s

/-- TEST r/m8, imm8: F6 /0 ib (R363). -/
def execTestRm8Imm8 (rm : Rm8) (imm : Byte) (s : State) : Result :=
  aluFlags8 (fun a b => aluLogic (a &&& b)) (s.pairRm8Imm8 rm imm) s

/-- TEST r/m16, imm16: F7 /0 iw (R363). -/
def execTestRm16Imm16 (rm : Rm16) (imm : Word) (s : State) : Result :=
  aluFlags16 (fun a b => aluLogic (a &&& b)) (s.pairRm16Imm16 rm imm) s

/-- NOT r/m8: F6 /2 (R364). No flag is written. -/
def execNotRm8 (rm : Rm8) (s : State) : Result := .next (s.wrRm8 rm (~~~ s.rdRm8 rm))

/-- NOT r/m16: F7 /2 (R364). No flag is written. -/
def execNotRm16 (rm : Rm16) (s : State) : Result := .next (s.wrRm16 rm (~~~ s.rdRm16 rm))

end Sys2Proof.Machine
end

