-- ==== Sys2Proof/Machine/ProcessorControl.lean ====
section
/-! DEFINITION. Processor control (47_processor_control.md R450 to R458). -/

namespace Sys2Proof.Machine

/-- HLT: F4 (R450). The queue stays as decode left it. -/
def execHlt (s : State) : Result := .next { s with status := .halted, haltReason := .hlt }

/-- CLC: F8 (R451). -/
def execClc (s : State) : Result := .next (s.setFlags { s.flags with cf := false })

/-- STC: F9 (R452). -/
def execStc (s : State) : Result := .next (s.setFlags { s.flags with cf := true })

/-- CMC: F5 (R453). -/
def execCmc (s : State) : Result := .next (s.setFlags { s.flags with cf := !s.flags.cf })

/-- CLI: FA (R454). -/
def execCli (s : State) : Result := .next (s.setFlags { s.flags with ief := false })

/-- STI: FB (R455). -/
def execSti (s : State) : Result := .next (s.setFlags { s.flags with ief := true })

/-- CLD: FC (R456). -/
def execCld (s : State) : Result := .next (s.setFlags { s.flags with df := false })

/-- STD: FD (R457). -/
def execStd (s : State) : Result := .next (s.setFlags { s.flags with df := true })

end Sys2Proof.Machine
end

