-- ==== Sys2Proof/Machine/Stack.lean ====
section
/-! DEFINITION. Stack (45_stack.md R380 to R390). -/

namespace Sys2Proof.Machine

/-- Push a word and nothing more. -/
def push (opc : Byte) (v : Word) (s : State) : Result := pushThen opc v (fun t => t) s

/-- Pop a word, SP moving by 2, and go on with `k`. -/
def pop (opc : Byte) (k : Word → State → State) (s : State) : Result := popThen opc 0 k s

/-- PUSH AX: 50 (R383). -/
def execPushAx (s : State) : Result := push 0x50 (s.x16 .ax) s

/-- PUSH CX: 51 (R383). -/
def execPushCx (s : State) : Result := push 0x51 (s.x16 .cx) s

/-- PUSH DX: 52 (R383). -/
def execPushDx (s : State) : Result := push 0x52 (s.x16 .dx) s

/-- PUSH BX: 53 (R383). -/
def execPushBx (s : State) : Result := push 0x53 (s.x16 .bx) s

/-- PUSH SP: 54 (R383). The value SP holds after the decrement is pushed. -/
def execPushSp (s : State) : Result := push 0x54 (s.x16 .sp - 2) s

/-- PUSH BP: 55 (R383). -/
def execPushBp (s : State) : Result := push 0x55 (s.x16 .bp) s

/-- PUSH SI: 56 (R383). -/
def execPushSi (s : State) : Result := push 0x56 (s.x16 .si) s

/-- PUSH DI: 57 (R383). -/
def execPushDi (s : State) : Result := push 0x57 (s.x16 .di) s

/-- PUSH r/m16: FF /6 (R383). The operand is read before SP changes, but
SP itself is pushed as it is after the decrement. -/
def execPushRm16 (rm : Rm16) (s : State) : Result :=
  push 0xFF (if rm = .reg .sp then s.x16 .sp - 2 else s.rdRm16 rm) s

/-- POP AX: 58 (R384). -/
def execPopAx (s : State) : Result := pop 0x58 (fun v t => t.setX16 .ax v) s

/-- POP CX: 59 (R384). -/
def execPopCx (s : State) : Result := pop 0x59 (fun v t => t.setX16 .cx v) s

/-- POP DX: 5A (R384). -/
def execPopDx (s : State) : Result := pop 0x5A (fun v t => t.setX16 .dx v) s

/-- POP BX: 5B (R384). -/
def execPopBx (s : State) : Result := pop 0x5B (fun v t => t.setX16 .bx v) s

/-- POP SP: 5C (R384). The popped value overwrites the increment. -/
def execPopSp (s : State) : Result := pop 0x5C (fun v t => t.setX16 .sp v) s

/-- POP BP: 5D (R384). -/
def execPopBp (s : State) : Result := pop 0x5D (fun v t => t.setX16 .bp v) s

/-- POP SI: 5E (R384). -/
def execPopSi (s : State) : Result := pop 0x5E (fun v t => t.setX16 .si v) s

/-- POP DI: 5F (R384). -/
def execPopDi (s : State) : Result := pop 0x5F (fun v t => t.setX16 .di v) s

/-- PUSH ES: 06 (R385). -/
def execPushEs (s : State) : Result := push 0x06 (s.sreg .es) s

/-- PUSH CS: 0E (R385). -/
def execPushCs (s : State) : Result := push 0x0E (s.sreg .cs) s

/-- PUSH SS: 16 (R385). -/
def execPushSs (s : State) : Result := push 0x16 (s.sreg .ss) s

/-- PUSH DS: 1E (R385). -/
def execPushDs (s : State) : Result := push 0x1E (s.sreg .ds) s

/-- POP ES: 07 (R386). -/
def execPopEs (s : State) : Result := pop 0x07 (fun v t => t.setSreg .es v) s

/-- POP SS: 17 (R386). -/
def execPopSs (s : State) : Result := pop 0x17 (fun v t => t.setSreg .ss v) s

/-- POP DS: 1F (R386). -/
def execPopDs (s : State) : Result := pop 0x1F (fun v t => t.setSreg .ds v) s

/-- POP r/m16: 8F /0 (R387). The address of the r/m operand is computed from the registers before
the instruction. -/
def execPopRm16 (rm : Rm16) (s : State) : Result := pop 0x8F (fun v t => t.writePlace16 (s.place rm) v) s

/-- PUSHF: 9C (R388). -/
def execPushf (s : State) : Result := push 0x9C s.flags.word s

/-- POPF: 9D (R389). -/
def execPopf (s : State) : Result := pop 0x9D (fun v t => t.setFlags (Flags.ofWord v)) s

end Sys2Proof.Machine
end

