-- ==== Sys2Proof/Machine/Queue.lean ====
section
/-! DEFINITION. The prefetch-queue controller and the decoder's byte supply (40_step_and_queue.md R210 to R214). -/

namespace Sys2Proof.Machine

/-- `inWindow(o)`: `CODE_LO <= o < CODE_HI`, compared as naturals (R210, 10_state.md R52). -/
def State.inWindow (s : State) (o : Word) : Bool := s.codeLo ≤ o.toNat && o.toNat < s.codeHi

/-- `prefetchTick()` (R210): one byte at CS:IP, and no change when the queue is full or IP is outside the window. -/
def State.prefetchTick (s : State) : State :=
  if s.queue.length < s.queueCap && s.inWindow s.ip then
    { s with queue := s.queue ++ [s.memRead8 (s.sreg .cs) s.ip], ip := s.ip + 1 }
  else s

/-- `n` ticks. -/
def State.prefetchTicks : Nat → State → State
  | 0, s => s
  | n + 1, s => State.prefetchTicks n s.prefetchTick

/-- `topUp()` (R210): ticks until the queue is full or IP leaves the window. The room left in the queue bounds the ticks
that append a byte, and a tick that appends none changes nothing. -/
def State.topUp (s : State) : State := State.prefetchTicks (s.queueCap - s.queue.length) s

/-- `fetchByte()` (R213): `none` is EndOfProgram. -/
def State.fetchByte (s : State) : Option (Byte × State) :=
  let t := if s.queue.isEmpty then s.topUp else s
  match t.queue with
  | [] => none
  | b :: q => some (b, { t with queue := q })

/-- The bytes that the next `n` calls of `fetchByte` deliver, fewer if the program ends. -/
def State.lookahead : Nat → State → List Byte
  | 0, _ => []
  | n + 1, s =>
    match s.fetchByte with
    | none => []
    | some (b, t) => b :: State.lookahead n t

/-- The state after `n` calls of `fetchByte`. -/
def State.consume : Nat → State → State
  | 0, s => s
  | n + 1, s =>
    match s.fetchByte with
    | none => s
    | some (_, t) => State.consume n t

/-- The bytes offered to the decoder: as many as the longest instruction has. The decoder reads them one at a time and
stops at the instruction's last byte; only those it read are then consumed (R212). DEDUCED (log entry 8): decode changes
no state but the queue and IP, so this equals asking for the bytes one by one. -/
def State.window (s : State) : List Byte := s.lookahead maxInstrBytes

/-- What a step does before decode (R200): status RUNNING, the fill phase, `instrStart <- archIP`, `segOverride <- none`. -/
def State.beginStep (s : State) : State :=
  let t := State.topUp { s with status := .running }
  { t with instrStart := t.archIp, segOverride := none }

/-- What no step leaves behind: the transient decode state (10_state.md R57), parked (log entry 3). -/
def State.endStep (s : State) : State := { s with instrStart := 0, segOverride := none }

/-- The next state of a step is parked; a stop stays as it is. -/
def finishStep : Result → Result
  | .next s => .next s.endStep
  | .fault r => .fault r
  | .refused r => .refused r

end Sys2Proof.Machine
end

