-- ==== Sys2Proof/Machine/Step.lean ====
section
/-! DEFINITION. One step of the block (40_step_and_queue.md R200), and the placing of an instruction for the next step. -/

namespace Sys2Proof.Machine

/-- The execute phase: the prefix, if there is one, sets `segOverride`; then the instruction runs (R216, R131). -/
def execInsn (pre : Option Instr) (i : Instr) (s : State) : Result :=
  match pre with
  | none => exec i s
  | some p =>
    match exec p s with
    | .next t => exec i t
    | .fault r => .fault r
    | .refused r => .refused r

/-- A step in LOADED or RUNNING (R200): fill, decode, and then the execute phase or the end of the program (R218). -/
def stepRunning (s : State) : Result :=
  let t := s.beginStep
  match decode t.window with
  | .endOfProgram => finishStep (.next t.endOfProgram)
  | .ok pre i rest => finishStep (execInsn pre i (t.consume (t.window.length - rest.length)))

/-- `step()` (R200). In HALTED it returns Ok and in FAULTED the recorded fault, and both change nothing; in NO_IMAGE it is
refused. -/
def step (s : State) : Host.Outcome State Fault Refusal :=
  match s.status with
  | .noImage => .refused .notLoaded
  | .halted => .next s
  | .faulted => .fault (.recorded s.faultKind s.faultIp s.faultOpcode)
  | .loaded => stepRunning s
  | .running => stepRunning s

/-- Bytes written one after another at `CS:off`. -/
def State.placeBytes (s : State) (off : Word) : List Byte → State
  | [] => s
  | b :: bs => State.placeBytes (s.memWrite8 (s.sreg .cs) off b) (off + 1) bs

/-- `s` with an instruction of the opcode table placed where the next step fetches: it stands for a `load` of the seven
bytes at the offset archIP. The bytes go to CS:archIP, the queue is emptied so that they are fetched, the fetch window and
the stored image are those of that load (where the bytes would run past the segment's end, the window is the whole
segment), and a state that would not step becomes LOADED. DESIGN CHOICE (log entry 13). -/
def State.withFetchWord (s : State) (nbits w : Nat) : State :=
  let off := s.archIp
  let bytes := tableBytes nbits w
  let fits := off.toNat + bytes.length ≤ 0x10000
  { s.placeBytes off bytes with
    queue := []
    ip := off
    codeLo := if fits then off.toNat else 0
    codeHi := if fits then off.toNat + bytes.length else 0x10000
    image := if fits then { bytes := bytes, size := bytes.length, entry := off } else s.image
    status :=
      match s.status with
      | .running => .running
      | .loaded => .loaded
      | .noImage => .loaded
      | .halted => .loaded
      | .faulted => .loaded }

end Sys2Proof.Machine
end

