-- ==== Sys2Proof/Machine/HostPort.lean ====
section
/-! DEFINITION. The host port: `load`, `reset`, `step` with its returned value, `run`, and the queries (00_scope.md R20,
10_state.md R60, 70_reset_and_hazards.md R541 to R543). -/

namespace Sys2Proof.Machine

/-- What a host operation may return as an error. -/
inductive HostError where
  /-- No image is loaded (R542). -/
  | notLoaded
  /-- `load` with an invalid image or configuration (R541). -/
  | loadRefused
  /-- An execution fault: its kind, faultIP and faultOpcode (60_exceptions.md R503). -/
  | execution (kind : FaultKind) (ip : Word) (opcode : Byte)
  deriving DecidableEq, Repr

/-- `Ok` or `Err`. -/
inductive Report where
  | ok
  | err (e : HostError)
  deriving DecidableEq, Repr

/-- The four segment bases of a configuration as the segment registers' reset values (10_state.md R37). -/
def LoadConfig.bases (cfg : LoadConfig) : SegRegs :=
  { es := BitVec.ofNat 16 cfg.segBaseEs, cs := BitVec.ofNat 16 cfg.segBaseCs, ss := BitVec.ofNat 16 cfg.segBaseSs,
    ds := BitVec.ofNat 16 cfg.segBaseDs }

/-- R540's state for an image and a configuration, before the image's bytes are written: every memory byte is 0x00. -/
def State.afterLoad (img : Image) (cfg : LoadConfig) : State :=
  { State.reset with
    segs := LoadConfig.bases cfg, ip := img.entry, memSize := cfg.memSize, queueCap := cfg.queueCap,
    segBase := LoadConfig.bases cfg, codeLo := img.entry.toNat, codeHi := img.entry.toNat + img.size, image := img }

/-- `load(IMAGE, config)` (R541): from any state, or refused with no state change. The image's bytes go to
`lin(SEG_BASE_CS, IMAGE.entry + i)` in increasing i (20_memory.md R95). -/
def load (img : Image) (cfg : LoadConfig) (s : State) : State × Report :=
  if validLoad img cfg then ((State.afterLoad img cfg).placeBytes img.entry img.bytes, .ok)
  else (s, .err .loadRefused)

/-- The configuration that the configuration registers hold. -/
def State.config (s : State) : LoadConfig :=
  { memSize := s.memSize, queueCap := s.queueCap, segBaseDs := s.segBase.ds.toNat, segBaseCs := s.segBase.cs.toNat,
    segBaseSs := s.segBase.ss.toNat, segBaseEs := s.segBase.es.toNat }

/-- An operation that NO_IMAGE refuses (R542). -/
def State.whenLoaded {α : Type} (s : State) (v : α) : Except HostError α :=
  if s.status = .noImage then .error .notLoaded else .ok v

/-- `reset()` is `load(stored IMAGE, stored config)` (R543). -/
def hostReset (s : State) : State × Report :=
  if s.status = .noImage then (s, .err .notLoaded) else load s.image s.config s

/-- `lastError()` as an error, where a fault has been recorded. -/
def State.reportOf (s : State) : Report :=
  if s.status = .faulted then .err (.execution s.faultKind s.faultIp s.faultOpcode) else .ok

/-- `step()` with the value it returns (40_step_and_queue.md R200): a step that raises a fault returns it, and so does
every later step. -/
def hostStep (s : State) : State × Report :=
  match step s with
  | .next t => (t, t.reportOf)
  | .fault (.recorded k ip opc) => (s, .err (.execution k ip opc))
  | .refused _ => (s, .err .notLoaded)

/-- `isDone()` (10_state.md R53). -/
def State.isDone (s : State) : Bool := s.status == .halted || s.status == .faulted

/-- The loop of `run`: the list holds the host's stop signal as it is sampled before each step. `none` is a run that has
not returned when the samples end (93_implementation_defined.md U5). -/
def runLoop : List Bool → State → State × Option Report
  | [], s => if s.isDone then (s, some s.reportOf) else (s, none)
  | stop :: more, s =>
    if s.isDone || stop then (s, some s.reportOf)
    else
      match hostStep s with
      | (t, .ok) => runLoop more t
      | (t, .err e) => (t, some (.err e))

/-- `run(stop)` (40_step_and_queue.md R201): it repeats `step` until the block is done, a step returns an error, or the
stop signal is set. -/
def run (stops : List Bool) (s : State) : State × Option Report :=
  if s.status = .noImage then (s, some (.err .notLoaded)) else runLoop stops s

/-- `compileAndLoad` is `load` applied to the assembler's output; a failed compilation changes no state (00_scope.md R20,
92_eei_decisions.md D36). `ε` is the assembler's own error. -/
def compileAndLoad {ε : Type} (compiled : Except ε Image) (cfg : LoadConfig) (s : State) : State × Except ε Report :=
  match compiled with
  | .error e => (s, .error e)
  | .ok img => ((load img cfg s).1, .ok (load img cfg s).2)

/-! ## Queries (10_state.md R60): none changes state, and each is refused in NO_IMAGE (R542). DESIGN CHOICE (log entry 15):
60_exceptions.md R513 has R60's queries "read every piece of state", and R60 lists none for haltReason, for the status
value or for the configuration; `queryStatus` is added to R60's seven, and no query reads the configuration. -/

/-- `registers()`: the IP entry is archIP. -/
def queryRegisters (s : State) : Except HostError (List (String × Word)) :=
  s.whenLoaded
    [("AX", s.x16 .ax), ("BX", s.x16 .bx), ("CX", s.x16 .cx), ("DX", s.x16 .dx), ("SP", s.x16 .sp), ("BP", s.x16 .bp),
      ("SI", s.x16 .si), ("DI", s.x16 .di), ("DS", s.sreg .ds), ("CS", s.sreg .cs), ("SS", s.sreg .ss),
      ("ES", s.sreg .es), ("IP", s.archIp)]

/-- `flags()`. -/
def queryFlags (s : State) : Except HostError (List (String × Bool)) :=
  s.whenLoaded
    [("CF", s.flags.cf), ("PF", s.flags.pf), ("AF", s.flags.af), ("Z", s.flags.zf), ("S", s.flags.sf),
      ("O", s.flags.ovf), ("TF", s.flags.tf), ("IF", s.flags.ief), ("DF", s.flags.df)]

/-- `memoryWindow(seg, offsetRange)`: `n` bytes from an offset on, with offset wrap. -/
def queryMemoryWindow (s : State) (seg : SegReg) (off : Word) (n : Nat) : Except HostError (List Byte) :=
  s.whenLoaded ((List.range n).map fun k => s.memRead8 (s.sreg seg) (off + BitVec.ofNat 16 k))

/-- `currentIP()` is archIP. -/
def queryCurrentIp (s : State) : Except HostError Word := s.whenLoaded s.archIp

/-- `isDone()` (10_state.md R53). It tells HALTED and FAULTED from the other states and no more. -/
def queryIsDone (s : State) : Except HostError Bool := s.whenLoaded s.isDone

/-- The status and, "read with status" (10_state.md R61), the haltReason, by which the host tells HLT from the end of the
program. DESIGN CHOICE (log entry 15): R61 gives the host this read, and R60 and 00_scope.md R20 name no query for it. -/
def queryStatus (s : State) : Except HostError (Status × HaltReason) := s.whenLoaded (s.status, s.haltReason)

/-- `lastError()`: NONE or the triple (10_state.md R55). -/
def queryLastError (s : State) : Except HostError (Option (FaultKind × Word × Byte)) :=
  s.whenLoaded (if s.faultKind = .none then none else some (s.faultKind, s.faultIp, s.faultOpcode))

/-- `queue()`: the bytes of Q in order, and the BIU IP. -/
def queryQueue (s : State) : Except HostError (List Byte × Word) := s.whenLoaded (s.queue, s.ip)

end Sys2Proof.Machine
end

