-- ==== Sys2Proof/Safety.lean ====
section
/-! DEFINITION. The terms that claims about the block use: the invariant of its states, what an instruction changes and
what it leaves alone, and what taking a fault does. -/

namespace Sys2Proof.Machine

/-! ## The invariant of the states that `load` and steps reach -/

/-- Memory has its canonical form and lists no address outside the store. -/
abbrev State.memOk (s : State) : Prop := Memory.wf s.mem ∧ ∀ c ∈ s.mem, c.1 < s.memSize

/-- `|Q| <= QUEUE_CAP` (10_state.md R50). -/
abbrev State.queueOk (s : State) : Prop := s.queue.length ≤ s.queueCap

/-- The bounds `load` checks, the fetch window of the stored image (10_state.md R52), and CS at its base (R36). -/
abbrev State.configOk (s : State) : Prop :=
  1 ≤ s.memSize ∧ 1 ≤ s.queueCap ∧ s.codeLo = s.image.entry.toNat ∧ s.codeHi = s.image.entry.toNat + s.image.size ∧
    s.codeHi ≤ 0x10000 ∧ s.image.size = s.image.bytes.length ∧ s.segs.cs = s.segBase.cs

/-- Status, halt reason and fault record agree (10_state.md R53 to R55): a fault is recorded in FAULTED alone, and then
currentIP() is faultIP (60_exceptions.md R502); MemoryFault is never recorded (20_memory.md R82). -/
abbrev State.statusOk (s : State) : Prop :=
  (s.status = .faulted ↔ s.faultKind ≠ .none) ∧ (s.status = .halted ↔ s.haltReason ≠ .none) ∧
    s.faultKind ≠ .memoryFault ∧ (s.status = .faulted → s.queue = [] ∧ s.ip = s.faultIp)

/-- No transient decode state survives a step (10_state.md R57). -/
abbrev State.parked (s : State) : Prop := s.instrStart = 0 ∧ s.segOverride = none

/-- The invariant of the block's states. -/
structure State.Inv (s : State) : Prop where
  memory : s.memOk
  queue : s.queueOk
  config : s.configOk
  status : s.statusOk
  parked : s.parked

/-- Each queued byte is the byte that memory holds at its CS offset now (10_state.md R35 without a store since). -/
abbrev State.QueueCoherent (s : State) : Prop :=
  ∀ k, (h : k < s.queue.length) → s.queue[k] = s.memRead8 (s.sreg .cs) (s.archIp + BitVec.ofNat 16 k)

/-- LOADED or RUNNING: the states in which a step runs an instruction. -/
abbrev State.steps (s : State) : Prop := s.status = .loaded ∨ s.status = .running

/-! ## What stays the same -/

/-- Every register reads the same. -/
abbrev SameRegs (s t : State) : Prop := ∀ r, t.x16 r = s.x16 r

/-- Every byte of memory reads the same. -/
abbrev SameMem (s t : State) : Prop := ∀ a, t.mem.read a = s.mem.read a

/-- Every segment register reads the same. -/
abbrev SameSegs (s t : State) : Prop := ∀ r, t.sreg r = s.sreg r

/-- The queue and the BIU IP are unchanged. -/
abbrev SameFetch (s t : State) : Prop := t.queue = s.queue ∧ t.ip = s.ip

/-- The configuration registers are unchanged (10_state.md R56). -/
abbrev SameConfig (s t : State) : Prop :=
  t.memSize = s.memSize ∧ t.queueCap = s.queueCap ∧ t.segBase = s.segBase ∧ t.codeLo = s.codeLo ∧ t.codeHi = s.codeHi ∧
    t.image = s.image

/-- The fault record is unchanged (10_state.md R55). -/
abbrev SameFault (s t : State) : Prop :=
  t.faultKind = s.faultKind ∧ t.faultIp = s.faultIp ∧ t.faultOpcode = s.faultOpcode

/-- Everything but the general registers, memory, flags, segment registers, queue and IP is unchanged. -/
abbrev SameControl (s t : State) : Prop :=
  SameConfig s t ∧ SameFault s t ∧ t.status = s.status ∧ t.haltReason = s.haltReason ∧ t.instrStart = s.instrStart ∧
    t.segOverride = s.segOverride

/-- Everything but the general registers, memory and flags is unchanged. -/
abbrev SameBeyondAlu (s t : State) : Prop := SameSegs s t ∧ SameFetch s t ∧ SameControl s t

/-! ## What is written -/

/-- One byte register holds `v`; the other byte registers, and the word registers it is no half of, read the same. -/
abbrev Reg8Written (s t : State) (r : Reg8) (v : Byte) : Prop :=
  t.x8 r = v ∧ (∀ q, q ≠ r → t.x8 q = s.x8 q) ∧ ∀ q, q ≠ wordReg r → t.x16 q = s.x16 q

/-- One word register holds `v`; the others read the same. -/
abbrev Reg16Written (s t : State) (r : Reg16) (v : Word) : Prop := t.x16 r = v ∧ ∀ q, q ≠ r → t.x16 q = s.x16 q

/-- The byte at `seg:off` holds `v`; every other byte of memory reads the same. -/
abbrev Byte8Written (s t : State) (seg off : Word) (v : Byte) : Prop :=
  t.mem.read (s.lin seg off) = v ∧ ∀ a, a ≠ s.lin seg off → t.mem.read a = s.mem.read a

/-- The word at `seg:off` holds `v`, its high byte at the wrapped offset `off + 1`; every other byte of memory reads the
same. Where both bytes fall on one linear address, the high byte is left (20_memory.md R85). -/
abbrev Word16Written (s t : State) (seg off : Word) (v : Word) : Prop :=
  t.mem.read (s.lin seg (off + 1)) = hiByte v ∧
    (s.lin seg off ≠ s.lin seg (off + 1) → t.mem.read (s.lin seg off) = loByte v) ∧
    ∀ a, a ≠ s.lin seg off → a ≠ s.lin seg (off + 1) → t.mem.read a = s.mem.read a

/-- `v` is written to a byte operand and nothing else among registers and memory. -/
def Stored8 (s t : State) (p : Place Reg8) (v : Byte) : Prop :=
  match p with
  | .reg r => Reg8Written s t r v ∧ SameMem s t
  | .mem seg off => SameRegs s t ∧ Byte8Written s t seg off v

/-- `v` is written to a word operand and nothing else among registers and memory. -/
def Stored16 (s t : State) (p : Place Reg16) (v : Word) : Prop :=
  match p with
  | .reg r => Reg16Written s t r v ∧ SameMem s t
  | .mem seg off => SameRegs s t ∧ Word16Written s t seg off v

/-- The six arithmetic flags are those given; TF, IF and DF are unchanged. -/
abbrev SixFlags (s t : State) (a : AluFlags) : Prop :=
  t.flags =
    { cf := a.cf, pf := a.pf, af := a.af, zf := a.zf, sf := a.sf, ovf := a.ovf, tf := s.flags.tf, ief := s.flags.ief,
      df := s.flags.df }

/-! ## Flags by their bit-level formulas -/

/-- An even number of ones among bits 7:0, as the complement of their exclusive or. -/
def evenOnes {w : Nat} (r : BitVec w) : Bool :=
  !((((r.getLsbD 0 ^^ r.getLsbD 1) ^^ (r.getLsbD 2 ^^ r.getLsbD 3)) ^^
    ((r.getLsbD 4 ^^ r.getLsbD 5) ^^ (r.getLsbD 6 ^^ r.getLsbD 7))))

/-- The flags of `r = a + b + carry` as bit-level logic (41_alu_flags.md R243). -/
def addFlagsBitLevel {w : Nat} (a b r : BitVec w) : AluFlags :=
  { cf := ((a &&& b) ||| ((a ||| b) &&& ~~~r)).msb, ovf := ((a ^^^ r) &&& (b ^^^ r)).msb,
    af := (a ^^^ b ^^^ r).getLsbD 4, pf := evenOnes r, zf := decide (r.toNat = 0), sf := decide (r.toInt < 0) }

/-- The flags of `r = a - b - borrow` as bit-level logic (41_alu_flags.md R244). -/
def subFlagsBitLevel {w : Nat} (a b r : BitVec w) : AluFlags :=
  { cf := ((~~~a &&& b) ||| ((~~~a ||| b) &&& r)).msb, ovf := ((a ^^^ b) &&& (a ^^^ r)).msb,
    af := (a ^^^ b ^^^ r).getLsbD 4, pf := evenOnes r, zf := decide (r.toNat = 0), sf := decide (r.toInt < 0) }

/-- CF, O and AF as given, and PF, Z and S from the result (41_alu_flags.md R242). -/
def resultFlags {w : Nat} (r : BitVec w) (cf ovf af : Bool) : AluFlags :=
  { cf, ovf, af, pf := evenOnes r, zf := decide (r.toNat = 0), sf := decide (r.toInt < 0) }

/-! ## The shapes of effects -/

/-- The instruction completes, with `v` in the byte operand `p` and the six flags `a`, and changes nothing else. -/
def Computes8 (i : Instr) (s : State) (p : Place Reg8) (v : Byte) (a : AluFlags) : Prop :=
  ∃ t, exec i s = .next t ∧ Stored8 s t p v ∧ SixFlags s t a ∧ SameBeyondAlu s t

/-- As `Computes8`, for words. -/
def Computes16 (i : Instr) (s : State) (p : Place Reg16) (v : Word) (a : AluFlags) : Prop :=
  ∃ t, exec i s = .next t ∧ Stored16 s t p v ∧ SixFlags s t a ∧ SameBeyondAlu s t

/-- The instruction completes and changes the six flags only. -/
def Compares (i : Instr) (s : State) (a : AluFlags) : Prop :=
  ∃ t, exec i s = .next t ∧ SameRegs s t ∧ SameMem s t ∧ SixFlags s t a ∧ SameBeyondAlu s t

/-- The instruction completes, with `v` in the byte operand `p`, and changes nothing else, flags included. -/
def Moves8 (i : Instr) (s : State) (p : Place Reg8) (v : Byte) : Prop :=
  ∃ t, exec i s = .next t ∧ Stored8 s t p v ∧ t.flags = s.flags ∧ SameBeyondAlu s t

/-- As `Moves8`, for words. -/
def Moves16 (i : Instr) (s : State) (p : Place Reg16) (v : Word) : Prop :=
  ∃ t, exec i s = .next t ∧ Stored16 s t p v ∧ t.flags = s.flags ∧ SameBeyondAlu s t

/-- The instruction completes with the flags `f` and changes nothing else. -/
def SetsFlags (i : Instr) (s : State) (f : Flags) : Prop :=
  ∃ t, exec i s = .next t ∧ SameRegs s t ∧ SameMem s t ∧ t.flags = f ∧ SameBeyondAlu s t

/-- The instruction transfers control to `target`: the queue is empty, IP is the target, and nothing else changes. -/
def JumpsTo (i : Instr) (s : State) (target : Word) : Prop :=
  ∃ t, exec i s = .next t ∧ t.queue = [] ∧ t.ip = target ∧ SameRegs s t ∧ SameMem s t ∧ t.flags = s.flags ∧
    SameSegs s t ∧ SameControl s t

/-- The instruction pushes `v`: SP moves down by 2, the word is at SS:SP, and nothing else changes. -/
def Pushes (i : Instr) (s : State) (v : Word) : Prop :=
  ∃ t, exec i s = .next t ∧ Reg16Written s t .sp (s.x16 .sp - 2) ∧
    Word16Written s t (s.sreg .ss) (s.x16 .sp - 2) v ∧ t.flags = s.flags ∧ SameBeyondAlu s t

/-- The instruction loads one segment register and changes nothing else. -/
def LoadsSeg (i : Instr) (s : State) (r : SegReg) (v : Word) : Prop :=
  ∃ t, exec i s = .next t ∧ t.sreg r = v ∧ (∀ q, q ≠ r → t.sreg q = s.sreg q) ∧ SameRegs s t ∧ SameMem s t ∧
    t.flags = s.flags ∧ SameFetch s t ∧ SameControl s t

/-- The instruction pushes `v`, transfers control to `target`, and changes nothing else. -/
def Calls (i : Instr) (s : State) (v target : Word) : Prop :=
  ∃ t, exec i s = .next t ∧ Reg16Written s t .sp (s.x16 .sp - 2) ∧
    Word16Written s t (s.sreg .ss) (s.x16 .sp - 2) v ∧ t.queue = [] ∧ t.ip = target ∧ t.flags = s.flags ∧
    SameSegs s t ∧ SameControl s t

/-- The instruction transfers control to `target` if `c` holds, and otherwise changes nothing. -/
def JumpsIf (i : Instr) (s : State) (c : Prop) (target : Word) : Prop :=
  (c → JumpsTo i s target) ∧ (¬c → exec i s = .next s)

/-- The instruction decrements CX, transfers control to `target` if CX is then not 0 and `c` holds, and changes nothing
else. -/
def LoopsIf (i : Instr) (s : State) (c : Prop) (target : Word) : Prop :=
  ∃ t, exec i s = .next t ∧ Reg16Written s t .cx (s.x16 .cx - 1) ∧ SameMem s t ∧ t.flags = s.flags ∧ SameSegs s t ∧
    SameControl s t ∧ ((s.x16 .cx - 1 ≠ 0 ∧ c) → t.queue = [] ∧ t.ip = target) ∧
    (¬(s.x16 .cx - 1 ≠ 0 ∧ c) → SameFetch s t)

/-- What every fault does (60_exceptions.md R502, R503): the record is written, the queue emptied, IP restored to
instrStart, status FAULTED; no register, flag, memory byte or configuration changes. -/
def FaultTaken (s t : State) (k : FaultKind) (opc : Byte) : Prop :=
  t.faultKind = k ∧ t.faultIp = s.instrStart ∧ t.faultOpcode = opc ∧ t.queue = [] ∧ t.ip = s.instrStart ∧
    t.status = .faulted ∧ t.haltReason = s.haltReason ∧ SameRegs s t ∧ SameMem s t ∧ SameSegs s t ∧
    t.flags = s.flags ∧ SameConfig s t

/-- The instruction raises a fault. -/
def Raises (i : Instr) (s : State) (k : FaultKind) (opc : Byte) : Prop := ∃ t, exec i s = .next t ∧ FaultTaken s t k opc

/-- The instruction raises StackFault, with its own opcode byte, exactly when `c` holds. -/
def StackFaultsIff (i : Instr) (s : State) (c : Prop) : Prop :=
  (c → Raises i s .stackFault ((encode i).headD 0)) ∧ (¬c → ∃ t, exec i s = .next t ∧ SameFault s t ∧ t.status = s.status)

/-! ## The nine forms of a two-operand ALU instruction (30_encoding.md R132) -/

structure AluForms where
  rm8R8 : Rm8 → Reg8 → Instr
  rm16R16 : Rm16 → Reg16 → Instr
  r8Rm8 : Reg8 → Rm8 → Instr
  r16Rm16 : Reg16 → Rm16 → Instr
  alImm8 : Byte → Instr
  axImm16 : Word → Instr
  rm8Imm8 : Rm8 → Byte → Instr
  rm16Imm16 : Rm16 → Word → Instr
  rm16Imm8 : Rm16 → Byte → Instr

def AluForms.add : AluForms :=
  ⟨.addRm8R8, .addRm16R16, .addR8Rm8, .addR16Rm16, .addAlImm8, .addAxImm16, .addRm8Imm8, .addRm16Imm16, .addRm16Imm8⟩
def AluForms.or : AluForms :=
  ⟨.orRm8R8, .orRm16R16, .orR8Rm8, .orR16Rm16, .orAlImm8, .orAxImm16, .orRm8Imm8, .orRm16Imm16, .orRm16Imm8⟩
def AluForms.adc : AluForms :=
  ⟨.adcRm8R8, .adcRm16R16, .adcR8Rm8, .adcR16Rm16, .adcAlImm8, .adcAxImm16, .adcRm8Imm8, .adcRm16Imm16, .adcRm16Imm8⟩
def AluForms.sbb : AluForms :=
  ⟨.sbbRm8R8, .sbbRm16R16, .sbbR8Rm8, .sbbR16Rm16, .sbbAlImm8, .sbbAxImm16, .sbbRm8Imm8, .sbbRm16Imm16, .sbbRm16Imm8⟩
def AluForms.and : AluForms :=
  ⟨.andRm8R8, .andRm16R16, .andR8Rm8, .andR16Rm16, .andAlImm8, .andAxImm16, .andRm8Imm8, .andRm16Imm16, .andRm16Imm8⟩
def AluForms.sub : AluForms :=
  ⟨.subRm8R8, .subRm16R16, .subR8Rm8, .subR16Rm16, .subAlImm8, .subAxImm16, .subRm8Imm8, .subRm16Imm16, .subRm16Imm8⟩
def AluForms.xor : AluForms :=
  ⟨.xorRm8R8, .xorRm16R16, .xorR8Rm8, .xorR16Rm16, .xorAlImm8, .xorAxImm16, .xorRm8Imm8, .xorRm16Imm16, .xorRm16Imm8⟩
def AluForms.cmp : AluForms :=
  ⟨.cmpRm8R8, .cmpRm16R16, .cmpR8Rm8, .cmpR16Rm16, .cmpAlImm8, .cmpAxImm16, .cmpRm8Imm8, .cmpRm16Imm16, .cmpRm16Imm8⟩

/-- Every form of the instruction satisfies `P8` or `P16` of itself, its destination operand and its two source values, as
R132 gives them for the form. -/
def AluForms.All (fm : AluForms) (s : State) (P8 : Instr → Place Reg8 → Byte → Byte → Prop)
    (P16 : Instr → Place Reg16 → Word → Word → Prop) : Prop :=
  (∀ rm r, P8 (fm.rm8R8 rm r) (s.place rm) (s.rdRm8 rm) (s.x8 r)) ∧
  (∀ rm r, P16 (fm.rm16R16 rm r) (s.place rm) (s.rdRm16 rm) (s.x16 r)) ∧
  (∀ r rm, P8 (fm.r8Rm8 r rm) (.reg r) (s.x8 r) (s.rdRm8 rm)) ∧
  (∀ r rm, P16 (fm.r16Rm16 r rm) (.reg r) (s.x16 r) (s.rdRm16 rm)) ∧
  (∀ imm, P8 (fm.alImm8 imm) (.reg .al) (s.x8 .al) imm) ∧
  (∀ imm, P16 (fm.axImm16 imm) (.reg .ax) (s.x16 .ax) imm) ∧
  (∀ rm imm, P8 (fm.rm8Imm8 rm imm) (s.place rm) (s.rdRm8 rm) imm) ∧
  (∀ rm imm, P16 (fm.rm16Imm16 rm imm) (s.place rm) (s.rdRm16 rm) imm) ∧
  (∀ rm (imm : Byte), P16 (fm.rm16Imm8 rm imm) (s.place rm) (s.rdRm16 rm) (imm.signExtend 16))

/-! ## The forms that name a register in the opcode -/

def incReg : Reg16 → Instr
  | .ax => .incAx | .cx => .incCx | .dx => .incDx | .bx => .incBx
  | .sp => .incSp | .bp => .incBp | .si => .incSi | .di => .incDi

def decReg : Reg16 → Instr
  | .ax => .decAx | .cx => .decCx | .dx => .decDx | .bx => .decBx
  | .sp => .decSp | .bp => .decBp | .si => .decSi | .di => .decDi

def pushReg : Reg16 → Instr
  | .ax => .pushAx | .cx => .pushCx | .dx => .pushDx | .bx => .pushBx
  | .sp => .pushSp | .bp => .pushBp | .si => .pushSi | .di => .pushDi

def popReg : Reg16 → Instr
  | .ax => .popAx | .cx => .popCx | .dx => .popDx | .bx => .popBx
  | .sp => .popSp | .bp => .popBp | .si => .popSi | .di => .popDi

def pushSeg : SegReg → Instr
  | .es => .pushEs | .cs => .pushCs | .ss => .pushSs | .ds => .pushDs

def movRegImm8 : Reg8 → Byte → Instr
  | .al => .movAlImm8 | .cl => .movClImm8 | .dl => .movDlImm8 | .bl => .movBlImm8
  | .ah => .movAhImm8 | .ch => .movChImm8 | .dh => .movDhImm8 | .bh => .movBhImm8

def movRegImm16 : Reg16 → Word → Instr
  | .ax => .movAxImm16 | .cx => .movCxImm16 | .dx => .movDxImm16 | .bx => .movBxImm16
  | .sp => .movSpImm16 | .bp => .movBpImm16 | .si => .movSiImm16 | .di => .movDiImm16

/-- XCHG AX with a word register: 90 + r, where 90 is NOP (30_encoding.md R145). -/
def xchgAxReg : Reg16 → Instr
  | .ax => .nop | .cx => .xchgAxCx | .dx => .xchgAxDx | .bx => .xchgAxBx
  | .sp => .xchgAxSp | .bp => .xchgAxBp | .si => .xchgAxSi | .di => .xchgAxDi

/-- The prefix instruction that selects a segment register (30_encoding.md R131). -/
def prefixOf : SegReg → Instr
  | .es => .prefixEs | .cs => .prefixCs | .ss => .prefixSs | .ds => .prefixDs

/-- The prefix byte of an instruction, if it has one. -/
def prefixBytes (pre : Option SegReg) : List Byte :=
  match pre with
  | none => []
  | some .es => [0x26]
  | some .cs => [0x2E]
  | some .ss => [0x36]
  | some .ds => [0x3E]

/-- The register sum of an effective address as a natural number (30_encoding.md R125). -/
def eaRegs (s : State) : EaBase → Nat
  | .bxSi => (s.x16 .bx).toNat + (s.x16 .si).toNat
  | .bxDi => (s.x16 .bx).toNat + (s.x16 .di).toNat
  | .bpSi => (s.x16 .bp).toNat + (s.x16 .si).toNat
  | .bpDi => (s.x16 .bp).toNat + (s.x16 .di).toNat
  | .si => (s.x16 .si).toNat
  | .di => (s.x16 .di).toNat
  | .bp => (s.x16 .bp).toNat
  | .bx => (s.x16 .bx).toNat

/-- The effective address as an exact integer, before it is taken mod 65536 (30_encoding.md R125). -/
def eaSum (s : State) : MemRef → Int
  | .base b => eaRegs s b
  | .direct off => off.toNat
  | .disp8 b d => eaRegs s b + d.toInt
  | .disp16 b d => eaRegs s b + d.toNat

/-- The target of a rel8 transfer as an integer sum: nextIP plus the signed displacement, mod 65536. -/
def relTarget (s : State) (rel : Byte) : Word := BitVec.ofInt 16 ((s.archIp.toNat : Int) + rel.toInt)

/-! ## Kinds of instructions -/

def Rm.isMem {ρ : Type} : Rm ρ → Bool
  | .reg _ => false
  | .mem _ => true

/-- The instruction has a memory operand that a segment-override prefix replaces the segment of: a ModRM operand with
mod != 11, or a moffs; LEA accesses no memory (30_encoding.md R131). -/
def memOperand : Instr → Bool
  | .addRm8R8 rm _ => Rm.isMem rm
  | .addRm16R16 rm _ => Rm.isMem rm
  | .addR8Rm8 _ rm => Rm.isMem rm
  | .addR16Rm16 _ rm => Rm.isMem rm
  | .orRm8R8 rm _ => Rm.isMem rm
  | .orRm16R16 rm _ => Rm.isMem rm
  | .orR8Rm8 _ rm => Rm.isMem rm
  | .orR16Rm16 _ rm => Rm.isMem rm
  | .adcRm8R8 rm _ => Rm.isMem rm
  | .adcRm16R16 rm _ => Rm.isMem rm
  | .adcR8Rm8 _ rm => Rm.isMem rm
  | .adcR16Rm16 _ rm => Rm.isMem rm
  | .sbbRm8R8 rm _ => Rm.isMem rm
  | .sbbRm16R16 rm _ => Rm.isMem rm
  | .sbbR8Rm8 _ rm => Rm.isMem rm
  | .sbbR16Rm16 _ rm => Rm.isMem rm
  | .andRm8R8 rm _ => Rm.isMem rm
  | .andRm16R16 rm _ => Rm.isMem rm
  | .andR8Rm8 _ rm => Rm.isMem rm
  | .andR16Rm16 _ rm => Rm.isMem rm
  | .subRm8R8 rm _ => Rm.isMem rm
  | .subRm16R16 rm _ => Rm.isMem rm
  | .subR8Rm8 _ rm => Rm.isMem rm
  | .subR16Rm16 _ rm => Rm.isMem rm
  | .xorRm8R8 rm _ => Rm.isMem rm
  | .xorRm16R16 rm _ => Rm.isMem rm
  | .xorR8Rm8 _ rm => Rm.isMem rm
  | .xorR16Rm16 _ rm => Rm.isMem rm
  | .cmpRm8R8 rm _ => Rm.isMem rm
  | .cmpRm16R16 rm _ => Rm.isMem rm
  | .cmpR8Rm8 _ rm => Rm.isMem rm
  | .cmpR16Rm16 _ rm => Rm.isMem rm
  | .addRm8Imm8 rm _ => Rm.isMem rm
  | .orRm8Imm8 rm _ => Rm.isMem rm
  | .adcRm8Imm8 rm _ => Rm.isMem rm
  | .sbbRm8Imm8 rm _ => Rm.isMem rm
  | .andRm8Imm8 rm _ => Rm.isMem rm
  | .subRm8Imm8 rm _ => Rm.isMem rm
  | .xorRm8Imm8 rm _ => Rm.isMem rm
  | .cmpRm8Imm8 rm _ => Rm.isMem rm
  | .addRm16Imm16 rm _ => Rm.isMem rm
  | .orRm16Imm16 rm _ => Rm.isMem rm
  | .adcRm16Imm16 rm _ => Rm.isMem rm
  | .sbbRm16Imm16 rm _ => Rm.isMem rm
  | .andRm16Imm16 rm _ => Rm.isMem rm
  | .subRm16Imm16 rm _ => Rm.isMem rm
  | .xorRm16Imm16 rm _ => Rm.isMem rm
  | .cmpRm16Imm16 rm _ => Rm.isMem rm
  | .addRm16Imm8 rm _ => Rm.isMem rm
  | .orRm16Imm8 rm _ => Rm.isMem rm
  | .adcRm16Imm8 rm _ => Rm.isMem rm
  | .sbbRm16Imm8 rm _ => Rm.isMem rm
  | .andRm16Imm8 rm _ => Rm.isMem rm
  | .subRm16Imm8 rm _ => Rm.isMem rm
  | .xorRm16Imm8 rm _ => Rm.isMem rm
  | .cmpRm16Imm8 rm _ => Rm.isMem rm
  | .testRm8R8 rm _ => Rm.isMem rm
  | .testRm16R16 rm _ => Rm.isMem rm
  | .xchgRm8R8 rm _ => Rm.isMem rm
  | .xchgRm16R16 rm _ => Rm.isMem rm
  | .movRm8R8 rm _ => Rm.isMem rm
  | .movRm16R16 rm _ => Rm.isMem rm
  | .movR8Rm8 _ rm => Rm.isMem rm
  | .movR16Rm16 _ rm => Rm.isMem rm
  | .movRm16Sreg rm _ => Rm.isMem rm
  | .movEsRm16 rm => Rm.isMem rm
  | .movSsDsRm16 _ rm => Rm.isMem rm
  | .popRm16 rm => Rm.isMem rm
  | .movAlMoffs8 _ => true
  | .movAxMoffs16 _ => true
  | .movMoffs8Al _ => true
  | .movMoffs16Ax _ => true
  | .movRm8Imm8 rm _ => Rm.isMem rm
  | .movRm16Imm16 rm _ => Rm.isMem rm
  | .testRm8Imm8 rm _ => Rm.isMem rm
  | .testRm16Imm16 rm _ => Rm.isMem rm
  | .notRm8 rm => Rm.isMem rm
  | .notRm16 rm => Rm.isMem rm
  | .negRm8 rm => Rm.isMem rm
  | .negRm16 rm => Rm.isMem rm
  | .mulRm8 rm => Rm.isMem rm
  | .mulRm16 rm => Rm.isMem rm
  | .imulRm8 rm => Rm.isMem rm
  | .imulRm16 rm => Rm.isMem rm
  | .divRm8 rm => Rm.isMem rm
  | .divRm16 rm => Rm.isMem rm
  | .idivRm8 rm => Rm.isMem rm
  | .idivRm16 rm => Rm.isMem rm
  | .incRm8 rm => Rm.isMem rm
  | .decRm8 rm => Rm.isMem rm
  | .incRm16 rm => Rm.isMem rm
  | .decRm16 rm => Rm.isMem rm
  | .callRm16 rm => Rm.isMem rm
  | .jmpRm16 rm => Rm.isMem rm
  | .pushRm16 rm => Rm.isMem rm
  | _ => false

/-- JMP, Jcc, LOOP*, JCXZ, CALL and RET (46_control_transfer.md). -/
def isTransfer : Instr → Bool
  | .joRel8 _ | .jnoRel8 _ | .jbRel8 _ | .jaeRel8 _ | .jeRel8 _ | .jneRel8 _ | .jbeRel8 _ | .jaRel8 _ | .jsRel8 _
  | .jnsRel8 _ | .jpRel8 _ | .jnpRel8 _ | .jlRel8 _ | .jgeRel8 _ | .jleRel8 _ | .jgRel8 _ => true
  | .loopRel8 _ | .loopeRel8 _ | .loopneRel8 _ | .jcxzRel8 _ => true
  | .jmpRel8 _ | .jmpRel16 _ | .jmpRm16 _ | .callRel16 _ | .callRm16 _ | .ret | .retImm16 _ => true
  | _ => false

/-- The fault an instruction has cause for in the state it is executed in, by R500's table (60_exceptions.md): a push where
SP would fall below 0 and a pop where it would pass 0xFFFF, in exact integers (45_stack.md R380); a division by 0 or one
whose quotient does not fit its register (43_arithmetic.md R330, R331); a rejected encoding. -/
def FaultCause (i : Instr) (s : State) : FaultKind → Prop :=
  match i with
  | .pushEs | .pushCs | .pushSs | .pushDs | .pushAx | .pushCx | .pushDx | .pushBx | .pushSp | .pushBp | .pushSi
  | .pushDi | .pushf | .pushRm16 _ | .callRel16 _ | .callRm16 _ => fun k => k = .stackFault ∧ (s.x16 .sp).toNat < 2
  | .popEs | .popSs | .popDs | .popAx | .popCx | .popDx | .popBx | .popSp | .popBp | .popSi | .popDi | .popf
  | .popRm16 _ | .ret => fun k => k = .stackFault ∧ 0xFFFF < (s.x16 .sp).toNat + 2
  | .retImm16 imm => fun k => k = .stackFault ∧ 0xFFFF < (s.x16 .sp).toNat + 2 + imm.toNat
  | .divRm8 rm => fun k =>
    k = .divideFault ∧ ((s.rdRm8 rm).toNat = 0 ∨ 0xFF < (s.x16 .ax).toNat / (s.rdRm8 rm).toNat)
  | .divRm16 rm => fun k =>
    k = .divideFault ∧ ((s.rdRm16 rm).toNat = 0 ∨ 0xFFFF < s.dxAx.toNat / (s.rdRm16 rm).toNat)
  | .idivRm8 rm => fun k =>
    k = .divideFault ∧ ((s.rdRm8 rm).toInt = 0 ∨ (s.x16 .ax).toInt.tdiv (s.rdRm8 rm).toInt < -0x80 ∨
      0x7F < (s.x16 .ax).toInt.tdiv (s.rdRm8 rm).toInt)
  | .idivRm16 rm => fun k =>
    k = .divideFault ∧ ((s.rdRm16 rm).toInt = 0 ∨ s.dxAx.toInt.tdiv (s.rdRm16 rm).toInt < -0x8000 ∨
      0x7FFF < s.dxAx.toInt.tdiv (s.rdRm16 rm).toInt)
  | .invalid _ _ => fun k => k = .invalidOpcode
  | _ => fun _ => False

/-- What the decoder rejects, as R500 lists it: an opcode or a ModRM byte that R166 rules out, and a second segment prefix
(30_encoding.md R131, R166). -/
def Rejected (pre : Option Instr) (opc : Byte) (modrm : Option Byte) : Prop :=
  invalidEncoding opc modrm = true ∨
    pre.isSome = true ∧ modrm = none ∧ ∃ r : SegReg, prefixBytes (some r) = [opc]

/-- The encodings that R166 rejects (30_encoding.md R166). -/
def isInvalid : Instr → Bool
  | .invalid _ _ => true
  | _ => false

/-! ## Sequences -/

/-- Push words one after another, the first one first; `none` where a push faults (45_stack.md R381). -/
def pushWords : List Word → State → Option State
  | [], s => some s
  | v :: vs, s => if s.pushFits 2 then pushWords vs (s.push16 v) else none

/-- Pop `n` words, the first one popped first; `none` where a pop faults (45_stack.md R382). -/
def popWords : Nat → State → Option (List Word × State)
  | 0, s => some ([], s)
  | n + 1, s =>
    if s.popFits 2 then (popWords n (s.setX16 .sp (s.x16 .sp + 2))).map fun r => (s.stackTop :: r.1, r.2) else none

/-- The same state but for TF, IF and DF (60_exceptions.md R510). -/
def SameButStoredFlags (s t : State) : Prop :=
  ∃ a b c, t = { s with flags := { s.flags with tf := a, ief := b, df := c } }

end Sys2Proof.Machine
end

