-- ==== Sys2Proof/Certificates/Slice0/Obligations.lean ====
section
/-! DEFINITION. The statements for the provers, from the numbered rules of spec/, in the terms of Safety.lean. Every
statement is about every state, those that no run reaches included. -/

open Sys2Proof Sys2Proof.Machine

/-! ## Encoding -/

/-- Decoding the encoding of any well-formed instruction gives it back, whatever bytes follow (30_encoding.md R120 to
R151). -/
def Obligations.DecodeInvertsEncode : Prop :=
  ∀ (i : Instr) (rest : List Byte), i.wf = true → decodeUnit (encode i ++ rest) = .ok i rest

/-- Whatever the decoder reads is well-formed, and its encoding is the bytes that were read (30_encoding.md R120 to
R151, 30_encoding.md R165, 30_encoding.md R166). -/
def Obligations.EncodeInvertsDecode : Prop :=
  ∀ (bs : List Byte) (i : Instr) (rest : List Byte), decodeUnit bs = .ok i rest → i.wf = true ∧ encode i ++ rest = bs

/-- A whole instruction, with or without one segment-override prefix, decodes to its prefix and itself (30_encoding.md
R120, 30_encoding.md R131, 40_step_and_queue.md R212). -/
def Obligations.PrefixedInstructionRoundTrip : Prop :=
  ∀ (pre : Option SegReg) (i : Instr) (rest : List Byte), i.wf = true → i.segPrefix? = none →
    decode (prefixBytes pre ++ encode i ++ rest) = .ok (pre.map prefixOf) i rest

/-- An instruction has 1 to 7 bytes, is decided by those bytes alone, and by no fewer (30_encoding.md R120,
30_encoding.md R130, 30_encoding.md R167). -/
def Obligations.DecodedInstructionIsSelfDelimiting : Prop :=
  ∀ (bs : List Byte) (pre : Option Instr) (i : Instr) (rest : List Byte), decode bs = .ok pre i rest →
    ∃ used, bs = used ++ rest ∧ 1 ≤ used.length ∧ used.length ≤ 7 ∧
      (∀ tail, decode (used ++ tail) = .ok pre i tail) ∧
      ∀ n, n < used.length → decode (used.take n) = .endOfProgram

/-- Exactly the encodings of R166 are rejected, and each raises InvalidOpcode with the rejected byte (R166). -/
def Obligations.RejectedEncodingsRaiseInvalidOpcode : Prop :=
  (∀ (pre : Option SegReg) (opc : Byte) (rest : List Byte), invalidOpcode opc = true →
    decode (prefixBytes pre ++ opc :: rest) = .ok (pre.map prefixOf) (.invalid opc none) rest) ∧
  (∀ (pre : Option SegReg) (opc m : Byte) (rest : List Byte), forbiddenModrm opc m = true →
    decode (prefixBytes pre ++ opc :: m :: rest) = .ok (pre.map prefixOf) (.invalid opc (some m)) rest) ∧
  (∀ (p q : SegReg) (rest : List Byte), ∃ b, prefixBytes (some q) = [b] ∧
    decode (prefixBytes (some p) ++ b :: rest) = .ok (some (prefixOf p)) (.invalid b none) rest) ∧
  (∀ (bs : List Byte) (pre : Option Instr) (i : Instr) (rest : List Byte), decode bs = .ok pre i rest →
    isInvalid i = false → ∃ opc tail, encode i = opc :: tail ∧ invalidOpcode opc = false ∧
      ∀ m tail', tail = m :: tail' → forbiddenModrm opc m = false) ∧
  (∀ (opc : Byte) (m : Option Byte) (s : State), Raises (.invalid opc m) s .invalidOpcode opc)

/-- The byte sequences that the spec writes out as examples decode to the instructions it names (42_data_movement.md
R280, 42_data_movement.md R289, 43_arithmetic.md R321, 44_logical.md R361, 45_stack.md R387, 46_control_transfer.md
R424, 46_control_transfer.md R426, 43_arithmetic.md R329, 30_encoding.md R131, 95_test_vectors.md L2.12). -/
def Obligations.SampleEncodingsDecode : Prop :=
  decode [0x89, 0x40, 0x04] = .ok none (.movRm16R16 (.mem (.disp8 .bxSi 4)) .ax) [] ∧
  decode [0x8D, 0x71, 0x10] = .ok none (.leaR16M .si (.disp8 .bxDi 0x10)) [] ∧
  decode [0x83, 0xD2, 0x00] = .ok none (.adcRm16Imm8 (.reg .dx) 0) [] ∧
  decode [0x81, 0xCB, 0x00, 0x80] = .ok none (.orRm16Imm16 (.reg .bx) 0x8000) [] ∧
  decode [0x8F, 0x07] = .ok none (.popRm16 (.mem (.base .bx))) [] ∧
  decode [0xFF, 0xD3] = .ok none (.callRm16 (.reg .bx)) [] ∧
  decode [0xC2, 0x04, 0x00] = .ok none (.retImm16 4) [] ∧
  decode [0xF6, 0xE9] = .ok none (.imulRm8 (.reg .cl)) [] ∧
  decode [0x36, 0x89, 0x46, 0x02] = .ok (some .prefixSs) (.movRm16R16 (.mem (.disp8 .bp 2)) .ax) []

/-! ## Registers, memory and flags -/

/-- The byte registers are the halves of AX, CX, DX and BX, and writing one leaves the other half alone (R32). -/
def Obligations.ByteRegistersAliasWordRegisters : Prop :=
  ∀ (s : State),
    (s.x8 .al = (s.x16 .ax).extractLsb' 0 8 ∧ s.x8 .cl = (s.x16 .cx).extractLsb' 0 8 ∧
      s.x8 .dl = (s.x16 .dx).extractLsb' 0 8 ∧ s.x8 .bl = (s.x16 .bx).extractLsb' 0 8 ∧
      s.x8 .ah = (s.x16 .ax).extractLsb' 8 8 ∧ s.x8 .ch = (s.x16 .cx).extractLsb' 8 8 ∧
      s.x8 .dh = (s.x16 .dx).extractLsb' 8 8 ∧ s.x8 .bh = (s.x16 .bx).extractLsb' 8 8) ∧
    ∀ (r : Reg8) (v : Byte), Reg8Written s (s.setX8 r v) r v

/-- Where a byte and a word are read, that every address lies in the store, and that no step records MemoryFault (R81,
R82, R84). -/
def Obligations.MemoryReadsAndTheUnreachableMemoryFault : Prop :=
  (∀ (s : State) (seg off : Word), s.lin seg off = (seg.toNat * 16 + off.toNat) % s.memSize ∧
    s.memRead8 seg off = s.mem.read (s.lin seg off) ∧
    (s.memRead16 seg off).toNat = (s.mem.read (s.lin seg (off + 1))).toNat * 256 + (s.mem.read (s.lin seg off)).toNat ∧
    (1 ≤ s.memSize → s.lin seg off < s.memSize ∧ s.portOk (s.lin seg off) = true)) ∧
  ∀ (s t : State), s.faultKind ≠ .memoryFault → step s = .next t → t.faultKind ≠ .memoryFault

/-- A byte write changes one byte, a word write its two bytes with offset wrap, and neither changes anything else
(20_memory.md R83, 20_memory.md R85, 20_memory.md R87, 20_memory.md R88). -/
def Obligations.MemoryWritesTouchOnlyTheirBytes : Prop :=
  ∀ (s : State) (seg off : Word),
    (∀ v, Byte8Written s (s.memWrite8 seg off v) seg off v ∧
      s.memWrite8 seg off v = { s with mem := (s.memWrite8 seg off v).mem } ∧
      (s.memWrite8 seg off v).memRead8 seg off = v ∧
      (s.memOk → 1 ≤ s.memSize → (s.memWrite8 seg off v).memOk)) ∧
    ∀ v, Word16Written s (s.memWrite16 seg off v) seg off v ∧
      s.memWrite16 seg off v = { s with mem := (s.memWrite16 seg off v).mem } ∧
      (s.lin seg off ≠ s.lin seg (off + 1) → (s.memWrite16 seg off v).memRead16 seg off = v) ∧
      (s.memOk → 1 ≤ s.memSize → (s.memWrite16 seg off v).memOk)

/-- The FLAGS word: the place of each flag, what the reserved bits read as, and writing it back (R41). -/
def Obligations.FlagsWordLayout : Prop :=
  (∀ (f : Flags), f.word.toNat = 0xF000 + f.ovf.toNat * 2048 + f.df.toNat * 1024 + f.ief.toNat * 512 +
    f.tf.toNat * 256 + f.sf.toNat * 128 + f.zf.toNat * 64 + f.af.toNat * 16 + f.pf.toNat * 4 + 2 + f.cf.toNat) ∧
  (∀ (v : Word), (Flags.ofWord v).word = (v &&& 0x0FD5) ||| 0xF002) ∧
  (∀ (f : Flags), Flags.ofWord f.word = f) ∧
  State.reset.flags.word = 0xF002

/-- Addition with carry: the result, and each flag by its definition, by its bit-level formula and by its meaning
(R240, R241, R242, R243). -/
def Obligations.AdditionResultAndFlags : Prop :=
  ∀ (w : Nat), w = 8 ∨ w = 16 → ∀ (a b : BitVec w) (c : Bool),
    let r := a + b + BitVec.ofNat w c.toNat
    let out := aluAdd a b c
    out.result = r ∧ out.flags = addFlagsBitLevel a b r ∧
      (out.flags.cf = true ↔ 2 ^ w ≤ a.toNat + b.toNat + c.toNat) ∧
      (out.flags.ovf = true ↔ a.msb = b.msb ∧ r.msb ≠ a.msb) ∧
      (out.flags.ovf = true ↔
        a.toInt + b.toInt + c.toNat < -2 ^ (w - 1) ∨ (2 : Int) ^ (w - 1) ≤ a.toInt + b.toInt + c.toNat) ∧
      (out.flags.af = true ↔ 16 ≤ a.toNat % 16 + b.toNat % 16 + c.toNat) ∧
      (out.flags.pf = true ↔ ((List.range 8).countP fun k => r.getLsbD k) % 2 = 0) ∧
      (out.flags.zf = true ↔ r = 0) ∧ out.flags.sf = r.msb

/-- Subtraction with borrow: the result, and each flag by its definition, by its bit-level formula and by its meaning
(R240, R241, R242, R244). -/
def Obligations.SubtractionResultAndFlags : Prop :=
  ∀ (w : Nat), w = 8 ∨ w = 16 → ∀ (a b : BitVec w) (c : Bool),
    let r := a - b - BitVec.ofNat w c.toNat
    let out := aluSub a b c
    out.result = r ∧ out.flags = subFlagsBitLevel a b r ∧
      (out.flags.cf = true ↔ a.toNat < b.toNat + c.toNat) ∧
      (out.flags.ovf = true ↔ a.msb ≠ b.msb ∧ r.msb ≠ a.msb) ∧
      (out.flags.ovf = true ↔
        a.toInt - b.toInt - c.toNat < -2 ^ (w - 1) ∨ (2 : Int) ^ (w - 1) ≤ a.toInt - b.toInt - c.toNat) ∧
      (out.flags.af = true ↔ a.toNat % 16 < b.toNat % 16 + c.toNat) ∧
      (out.flags.pf = true ↔ ((List.range 8).countP fun k => r.getLsbD k) % 2 = 0) ∧
      (out.flags.zf = true ↔ r = 0) ∧ out.flags.sf = r.msb

/-- The effective address of every memory form, and DS or the overriding segment for every one of them (R125, R126).
-/
def Obligations.EffectiveAddressAndDataSegment : Prop :=
  ∀ (s : State) (m : MemRef), s.ea m = BitVec.ofInt 16 (eaSum s m) ∧
    (s.segOverride = none → s.place (ρ := Reg16) (.mem m) = .mem (s.sreg .ds) (s.ea m) ∧
      s.place (ρ := Reg8) (.mem m) = .mem (s.sreg .ds) (s.ea m)) ∧
    ∀ r, s.segOverride = some r → s.place (ρ := Reg16) (.mem m) = .mem (s.sreg r) (s.ea m) ∧
      s.place (ρ := Reg8) (.mem m) = .mem (s.sreg r) (s.ea m)

/-- A prefix selects its segment register, and changes nothing for an instruction with no memory operand
(30_encoding.md R131, 20_memory.md R93). -/
def Obligations.SegmentOverridePrefixes : Prop :=
  (∀ (s : State) (r : SegReg), exec (prefixOf r) s = .next { s with segOverride := some r } ∧
    ({ s with segOverride := some r } : State).dataSeg = s.sreg r) ∧
  ∀ (i : Instr) (s : State) (o : Option SegReg), memOperand i = false → i.segPrefix? = none →
    ∃ t, exec i s = .next t ∧ exec i { s with segOverride := o } = .next { t with segOverride := o }

/-! ## Steps, the queue and faults -/

/-- When the bytes offered to the decoder are an instruction, a step executes it after fill and decode
(40_step_and_queue.md R200, 40_step_and_queue.md R212, 40_step_and_queue.md R214, 40_step_and_queue.md R216). -/
def Obligations.StepRunsDecodedInstruction : Prop :=
  ∀ (s : State) (pre : Option SegReg) (i : Instr) (rest : List Byte), s.steps →
    decode s.beginStep.window = .ok (pre.map prefixOf) i rest →
    ∃ u : State, step s = finishStep (exec i { u with segOverride := pre }) ∧
      u = { s with status := .running, instrStart := s.archIp, segOverride := none, queue := u.queue, ip := u.ip } ∧
      u.archIp = s.archIp + BitVec.ofNat 16 (s.beginStep.window.length - rest.length)

/-- A step runs the instruction that memory holds at CS:archIP, whatever part of it is queued (40_step_and_queue.md
R200, 40_step_and_queue.md R210, 40_step_and_queue.md R212, 40_step_and_queue.md R214, 10_state.md R35). -/
def Obligations.StepRunsInstructionInMemory : Prop :=
  ∀ (s : State) (pre : Option SegReg) (i : Instr), s.Inv → s.steps → s.QueueCoherent → i.wf = true →
    i.segPrefix? = none →
    (∀ k, (h : k < (prefixBytes pre ++ encode i).length) → s.inWindow (s.archIp + BitVec.ofNat 16 k) = true ∧
      s.memRead8 (s.sreg .cs) (s.archIp + BitVec.ofNat 16 k) = (prefixBytes pre ++ encode i)[k]) →
    ∃ u : State, step s = finishStep (exec i { u with segOverride := pre }) ∧
      u = { s with status := .running, instrStart := s.archIp, segOverride := none, queue := u.queue, ip := u.ip } ∧
      u.archIp = s.archIp + BitVec.ofNat 16 (prefixBytes pre ++ encode i).length ∧ u.queueOk ∧ u.QueueCoherent

/-- A prefetch tick and the top-up: which bytes are appended, in which order, how many at most, and when they stop
(R210). -/
def Obligations.TopUpFillsTheQueue : Prop :=
  ∀ (s : State),
    (s.queue.length < s.queueCap ∧ s.codeLo ≤ s.ip.toNat ∧ s.ip.toNat < s.codeHi →
      s.prefetchTick = { s with queue := s.queue ++ [s.memRead8 (s.sreg .cs) s.ip], ip := s.ip + 1 }) ∧
    (¬(s.queue.length < s.queueCap ∧ s.codeLo ≤ s.ip.toNat ∧ s.ip.toNat < s.codeHi) → s.prefetchTick = s) ∧
    ∃ n, s.topUp = { s with
        queue := s.queue ++ (List.range n).map fun k => s.memRead8 (s.sreg .cs) (s.ip + BitVec.ofNat 16 k)
        ip := s.ip + BitVec.ofNat 16 n } ∧
      n ≤ s.queueCap - s.queue.length ∧ (∀ k, k < n → s.inWindow (s.ip + BitVec.ofNat 16 k) = true) ∧
      (s.queueCap ≤ s.topUp.queue.length ∨ s.inWindow s.topUp.ip = false)

/-- Fetching an instruction byte: from the queue, else after a top-up, else the end of the program; archIP grows by
one (R213). -/
def Obligations.FetchByteDeliversTheNextByte : Prop :=
  ∀ (s : State), 1 ≤ s.queueCap →
    (∀ b q, s.queue = b :: q → s.fetchByte = some (b, { s with queue := q })) ∧
    (s.queue = [] → s.inWindow s.ip = true →
      ∃ t, s.fetchByte = some (s.memRead8 (s.sreg .cs) s.ip, t) ∧
        s.topUp.queue = s.memRead8 (s.sreg .cs) s.ip :: t.queue ∧ t = { s.topUp with queue := t.queue }) ∧
    (s.queue = [] → s.inWindow s.ip = false → s.fetchByte = none) ∧
    ∀ b t, s.fetchByte = some (b, t) → t.archIp = s.archIp + 1

/-- The queue never holds more bytes than its capacity (R219). -/
def Obligations.QueueStaysWithinCapacity : Prop :=
  (∀ (img : Image) (cfg : LoadConfig) (s t : State), load img cfg s = (t, .ok) → t.queue = []) ∧
  (∀ (s t : State), hostReset s = (t, .ok) → t.queue = []) ∧
  (∀ (s t : State), s.queueOk → step s = .next t → t.queueOk) ∧
  ∀ (s : State), s.queue.length = s.queueCap → s.prefetchTick = s

/-- No execute phase fetches or alters queued bytes: it keeps the queue and IP, or a transfer or a fault empties it
(10_state.md R51, 20_memory.md R105, 40_step_and_queue.md R211, 40_step_and_queue.md R215). -/
def Obligations.ExecuteKeepsOrEmptiesTheQueue : Prop :=
  ∀ (i : Instr) (s t : State), exec i s = .next t →
    (t.queue = s.queue ∧ t.ip = s.ip) ∨
      (t.queue = [] ∧ (isTransfer i = true ∨ (t.status = .faulted ∧ t.ip = s.instrStart)))

/-- HALTED and FAULTED are terminal for step and run, and NO_IMAGE refuses them (40_step_and_queue.md R200,
40_step_and_queue.md R201, 40_step_and_queue.md R202, 60_exceptions.md R507, 70_reset_and_hazards.md R542). -/
def Obligations.StoppedMachineChangesNothing : Prop :=
  (∀ (s : State) (stops : List Bool), s.status = .halted → step s = .next s ∧ run stops s = (s, some .ok)) ∧
  (∀ (s : State) (stops : List Bool), s.status = .faulted →
    step s = .fault (.recorded s.faultKind s.faultIp s.faultOpcode) ∧
    run stops s = (s, some (.err (.execution s.faultKind s.faultIp s.faultOpcode)))) ∧
  (∀ (s : State) (stops : List Bool), s.status = .noImage → step s = .refused .notLoaded ∧
    run stops s = (s, some (.err .notLoaded)) ∧ hostReset s = (s, .err .notLoaded)) ∧
  State.powerOn.status = .noImage

/-- Running out of instruction bytes halts the program with END_OF_PROGRAM and records no fault (R218). -/
def Obligations.EndOfProgramHalts : Prop :=
  (∀ (s : State), s.steps → decode s.beginStep.window = .endOfProgram →
    ∃ t, step s = .next t ∧ t.status = .halted ∧ t.haltReason = .endOfProgram ∧ t.queue = [] ∧ t.ip = s.archIp ∧
      SameRegs s t ∧ SameSegs s t ∧ t.flags = s.flags ∧ SameMem s t ∧ SameConfig s t ∧ SameFault s t) ∧
  (∀ (s : State), s.queue = [] → s.inWindow s.ip = false → decode s.beginStep.window = .endOfProgram) ∧
  ∀ (s : State) (pre : Option SegReg) (i : Instr) (n : Nat), i.wf = true → i.segPrefix? = none →
    n < (prefixBytes pre ++ encode i).length → s.beginStep.window = (prefixBytes pre ++ encode i).take n →
    decode s.beginStep.window = .endOfProgram

/-- A step that faults changes no register, segment register, flag or memory byte, and currentIP() is faultIP (R502).
-/
def Obligations.FaultsArePrecise : Prop :=
  ∀ (s t : State), s.steps → step s = .next t → t.status = .faulted →
    SameRegs s t ∧ SameSegs s t ∧ t.flags = s.flags ∧ SameMem s t ∧ SameConfig s t ∧ t.queue = [] ∧
      t.faultIp = s.archIp ∧ t.ip = t.faultIp ∧ t.archIp = t.faultIp

/-- faultIP is the offset of the first byte, prefix included, and faultOpcode the opcode byte or rejected byte (R501).
-/
def Obligations.FaultRecordNamesTheInstruction : Prop :=
  ∀ (s t : State), s.steps → step s = .next t → t.status = .faulted →
    ∃ pre i rest tail, decode s.beginStep.window = .ok pre i rest ∧ t.faultIp = s.archIp ∧
      encode i = t.faultOpcode :: tail

/-- The codes of the fault kinds, and the cause on which a step raises each and without which it raises none;
MemoryFault never (R500). -/
def Obligations.FaultKindsAndTheirCauses : Prop :=
  (FaultKind.code .none = 0 ∧ FaultKind.code .invalidOpcode = 1 ∧ FaultKind.code .stackFault = 2 ∧
    FaultKind.code .divideFault = 3 ∧ FaultKind.code .memoryFault = 4) ∧
  ∀ (s t : State), s.steps → step s = .next t →
    (t.status = .faulted →
      t.faultKind = .invalidOpcode ∨ t.faultKind = .stackFault ∨ t.faultKind = .divideFault) ∧
    (decode s.beginStep.window = .endOfProgram → t.status ≠ .faulted) ∧
    ∀ pre i rest, decode s.beginStep.window = .ok pre i rest →
      (∀ k, t.status = .faulted ∧ t.faultKind = k ↔
        FaultCause i { s with segOverride := pre.bind Instr.segPrefix? } k) ∧
      ∀ opc modrm, i = .invalid opc modrm → Rejected pre opc modrm

/-- The invariant holds at State.reset, which is what load leaves for the empty image and the default configuration
(70_reset_and_hazards.md R540, 70_reset_and_hazards.md R541). -/
def Obligations.ResetStateMeetsTheInvariant : Prop :=
  State.reset.Inv ∧ load Image.empty { } State.powerOn = (State.reset, .ok)

/-- From every state that meets the invariant, every step that answers a next state answers one that meets it
(10_state.md R50, 10_state.md R52, 10_state.md R55, 10_state.md R56, 10_state.md R57, 40_step_and_queue.md R219,
20_memory.md R82). -/
def Obligations.EveryStepKeepsTheInvariant : Prop :=
  ∀ (s t : State), s.Inv → step s = .next t → t.Inv

/-- No step writes CS or a configuration register (10_state.md R36, 10_state.md R56). -/
def Obligations.StepsNeverWriteCsOrConfiguration : Prop :=
  ∀ (s t : State), step s = .next t → t.sreg .cs = s.sreg .cs ∧ SameConfig s t

/-- TF, IF and DF are storage only: who writes each, and that nothing but PUSHF reads them (R458, R510). -/
def Obligations.StoredFlagsAreInert : Prop :=
  (State.reset.flags.tf = false ∧ State.reset.flags.ief = false ∧ State.reset.flags.df = false) ∧
  (∀ (i : Instr) (s t : State), exec i s = .next t →
    (t.flags.tf ≠ s.flags.tf → i = .popf) ∧
    (t.flags.ief ≠ s.flags.ief → i = .cli ∨ i = .sti ∨ i = .popf) ∧
    (t.flags.df ≠ s.flags.df → i = .cld ∨ i = .std ∨ i = .popf)) ∧
  ∀ (i : Instr) (s s' t : State), i ≠ .pushf → SameButStoredFlags s s' → exec i s = .next t →
    ∃ t', exec i s' = .next t' ∧ SameButStoredFlags t t'

/-- N pushes and then N pops restore SP and give the pushed words back in reverse order (45_stack.md R381, 45_stack.md
R382, 45_stack.md R390). -/
def Obligations.StackIsLastInFirstOut : Prop :=
  ∀ (s : State) (vs : List Word), 2 * vs.length ≤ (s.x16 .sp).toNat → 2 * vs.length ≤ s.memSize →
    ∃ t, (pushWords vs s).bind (popWords vs.length) = some (vs.reverse, t) ∧ t = { s with mem := t.mem } ∧
      ∀ a, (∀ k, 1 ≤ k → k ≤ 2 * vs.length → a ≠ s.lin (s.sreg .ss) (s.x16 .sp - BitVec.ofNat 16 k)) →
        t.mem.read a = s.mem.read a

/-- load: the whole state it leaves, the image in memory, and its refusal of an invalid argument (R95, R540, R541). -/
def Obligations.LoadEstablishesTheResetState : Prop :=
  ∀ (img : Image) (cfg : LoadConfig) (s : State),
    (validLoad img cfg → ∃ t, load img cfg s = (t, .ok) ∧ (∀ r, t.x16 r = if r = .sp then 0xFFFE else 0) ∧
      (t.sreg .ds).toNat = cfg.segBaseDs ∧ (t.sreg .cs).toNat = cfg.segBaseCs ∧ (t.sreg .ss).toNat = cfg.segBaseSs ∧
      (t.sreg .es).toNat = cfg.segBaseEs ∧ t.segBase = t.segs ∧ t.ip = img.entry ∧ t.archIp = img.entry ∧ t.queue = [] ∧
      t.flags = ⟨false, false, false, false, false, false, false, false, false⟩ ∧ t.flags.word = 0xF002 ∧
      t.status = .loaded ∧ t.haltReason = .none ∧ t.faultKind = .none ∧ t.faultIp = 0 ∧ t.faultOpcode = 0 ∧
      t.memSize = cfg.memSize ∧ t.queueCap = cfg.queueCap ∧ t.codeLo = img.entry.toNat ∧
      t.codeHi = img.entry.toNat + img.size ∧ t.image = img ∧
      (∀ i, (h : i < img.bytes.length) →
        (∀ j, i < j → j < img.bytes.length →
          t.lin (t.sreg .cs) (img.entry + BitVec.ofNat 16 j) ≠ t.lin (t.sreg .cs) (img.entry + BitVec.ofNat 16 i)) →
        t.mem.read (t.lin (t.sreg .cs) (img.entry + BitVec.ofNat 16 i)) = img.bytes[i]) ∧
      (∀ a, (∀ i, i < img.bytes.length → t.lin (t.sreg .cs) (img.entry + BitVec.ofNat 16 i) ≠ a) → t.mem.read a = 0) ∧
      t.Inv) ∧
    (¬validLoad img cfg → load img cfg s = (s, .err .loadRefused))

/-- reset() gives back exactly the state that the last load left, whatever the program has done since (R543). -/
def Obligations.ResetReloadsTheStoredImage : Prop :=
  (∀ (img : Image) (cfg : LoadConfig) (s t u : State), load img cfg s = (t, .ok) → SameConfig t u →
    u.status ≠ .noImage → hostReset u = (t, .ok)) ∧
  ∀ (s : State), s.status = .noImage → hostReset s = (s, .err .notLoaded)

/-! ## Arithmetic and logic -/

/-- ADD and ADC, all nine forms each: they complete with the sum and the six flags, and change nothing else (R320,
R321). -/
def Obligations.AddAndAdc : Prop :=
  ∀ (s : State),
    AluForms.add.All s (fun i p a b => Computes8 i s p (a + b) (addFlagsBitLevel a b (a + b)))
      (fun i p a b => Computes16 i s p (a + b) (addFlagsBitLevel a b (a + b))) ∧
    AluForms.adc.All s
      (fun i p a b => let r := a + b + BitVec.ofNat 8 s.flags.cf.toNat
        Computes8 i s p r (addFlagsBitLevel a b r))
      (fun i p a b => let r := a + b + BitVec.ofNat 16 s.flags.cf.toNat
        Computes16 i s p r (addFlagsBitLevel a b r))

/-- SUB and SBB, all nine forms each: they complete with the difference and the six flags, and change nothing else
(R322, R323). -/
def Obligations.SubAndSbb : Prop :=
  ∀ (s : State),
    AluForms.sub.All s (fun i p a b => Computes8 i s p (a - b) (subFlagsBitLevel a b (a - b)))
      (fun i p a b => Computes16 i s p (a - b) (subFlagsBitLevel a b (a - b))) ∧
    AluForms.sbb.All s
      (fun i p a b => let r := a - b - BitVec.ofNat 8 s.flags.cf.toNat
        Computes8 i s p r (subFlagsBitLevel a b r))
      (fun i p a b => let r := a - b - BitVec.ofNat 16 s.flags.cf.toNat
        Computes16 i s p r (subFlagsBitLevel a b r))

/-- CMP, all nine forms: it completes with the six flags of the difference and writes nothing else (R324). -/
def Obligations.CmpWritesFlagsOnly : Prop :=
  ∀ (s : State),
    AluForms.cmp.All s (fun i _ a b => Compares i s (subFlagsBitLevel a b (a - b)))
      (fun i _ a b => Compares i s (subFlagsBitLevel a b (a - b)))

/-- AND, OR and XOR, all nine forms each: the result, CF = O = AF = 0, PF, Z and S from it, and nothing else (R360,
R361, R362, R245). -/
def Obligations.AndOrXor : Prop :=
  ∀ (s : State),
    AluForms.and.All s (fun i p a b => Computes8 i s p (a &&& b) (resultFlags (a &&& b) false false false))
      (fun i p a b => Computes16 i s p (a &&& b) (resultFlags (a &&& b) false false false)) ∧
    AluForms.or.All s (fun i p a b => Computes8 i s p (a ||| b) (resultFlags (a ||| b) false false false))
      (fun i p a b => Computes16 i s p (a ||| b) (resultFlags (a ||| b) false false false)) ∧
    AluForms.xor.All s (fun i p a b => Computes8 i s p (a ^^^ b) (resultFlags (a ^^^ b) false false false))
      (fun i p a b => Computes16 i s p (a ^^^ b) (resultFlags (a ^^^ b) false false false))

/-- TEST, all six forms: it completes with the flags of a AND b and writes nothing else (R363). -/
def Obligations.TestWritesFlagsOnly : Prop :=
  ∀ (s : State),
    (∀ rm r, Compares (.testRm8R8 rm r) s (resultFlags (s.rdRm8 rm &&& s.x8 r) false false false)) ∧
    (∀ rm r, Compares (.testRm16R16 rm r) s (resultFlags (s.rdRm16 rm &&& s.x16 r) false false false)) ∧
    (∀ imm, Compares (.testAlImm8 imm) s (resultFlags (s.x8 .al &&& imm) false false false)) ∧
    (∀ imm, Compares (.testAxImm16 imm) s (resultFlags (s.x16 .ax &&& imm) false false false)) ∧
    (∀ rm imm, Compares (.testRm8Imm8 rm imm) s (resultFlags (s.rdRm8 rm &&& imm) false false false)) ∧
    ∀ rm imm, Compares (.testRm16Imm16 rm imm) s (resultFlags (s.rdRm16 rm &&& imm) false false false)

/-- NOT and NEG, byte and word: NOT writes no flag; NEG the six of 0 - a, CF iff a is not 0, O iff a is the least
(R327, R364). -/
def Obligations.NotAndNeg : Prop :=
  ∀ (s : State),
    (∀ rm, Moves8 (.notRm8 rm) s (s.place rm) (s.rdRm8 rm ^^^ 0xFF)) ∧
    (∀ rm, Moves16 (.notRm16 rm) s (s.place rm) (s.rdRm16 rm ^^^ 0xFFFF)) ∧
    (∀ rm, let a := s.rdRm8 rm
      Computes8 (.negRm8 rm) s (s.place rm) (0 - a)
        (resultFlags (0 - a) (decide (a ≠ 0)) (decide (a = 0x80)) (decide (a.toNat % 16 ≠ 0)))) ∧
    ∀ rm, let a := s.rdRm16 rm
      Computes16 (.negRm16 rm) s (s.place rm) (0 - a)
        (resultFlags (0 - a) (decide (a ≠ 0)) (decide (a = 0x8000)) (decide (a.toNat % 16 ≠ 0)))

/-- INC and DEC, ten forms each: a plus or minus 1, CF kept, the other five flags written, and nothing else (R251,
R325, R326). -/
def Obligations.IncAndDec : Prop :=
  ∀ (s : State),
    (∀ r, Computes16 (incReg r) s (.reg r) (s.x16 r + 1)
      { addFlagsBitLevel (s.x16 r) 1 (s.x16 r + 1) with cf := s.flags.cf }) ∧
    (∀ rm, Computes8 (.incRm8 rm) s (s.place rm) (s.rdRm8 rm + 1)
      { addFlagsBitLevel (s.rdRm8 rm) 1 (s.rdRm8 rm + 1) with cf := s.flags.cf }) ∧
    (∀ rm, Computes16 (.incRm16 rm) s (s.place rm) (s.rdRm16 rm + 1)
      { addFlagsBitLevel (s.rdRm16 rm) 1 (s.rdRm16 rm + 1) with cf := s.flags.cf }) ∧
    (∀ r, Computes16 (decReg r) s (.reg r) (s.x16 r - 1)
      { subFlagsBitLevel (s.x16 r) 1 (s.x16 r - 1) with cf := s.flags.cf }) ∧
    (∀ rm, Computes8 (.decRm8 rm) s (s.place rm) (s.rdRm8 rm - 1)
      { subFlagsBitLevel (s.rdRm8 rm) 1 (s.rdRm8 rm - 1) with cf := s.flags.cf }) ∧
    ∀ rm, Computes16 (.decRm16 rm) s (s.place rm) (s.rdRm16 rm - 1)
      { subFlagsBitLevel (s.rdRm16 rm) 1 (s.rdRm16 rm - 1) with cf := s.flags.cf }

/-- MUL and IMUL, byte and word: the exact product in AX or DX:AX, CF = O = it does not fit W bits, and nothing else
(R246, R328, R329). -/
def Obligations.MulAndImul : Prop :=
  ∀ (s : State),
    (∀ rm, let n : Nat := (s.x8 .al).toNat * (s.rdRm8 rm).toNat
      let tooWide := decide (256 ≤ n)
      ∃ t, exec (.mulRm8 rm) s = .next t ∧ (t.x16 .ax).toNat = n ∧ (∀ q, q ≠ .ax → t.x16 q = s.x16 q) ∧ SameMem s t ∧
        SixFlags s t (resultFlags (t.x16 .ax) tooWide tooWide false) ∧ SameBeyondAlu s t) ∧
    (∀ rm, let n : Nat := (s.x16 .ax).toNat * (s.rdRm16 rm).toNat
      let tooWide := decide (65536 ≤ n)
      ∃ t, exec (.mulRm16 rm) s = .next t ∧ t.dxAx.toNat = n ∧ (∀ q, q ≠ .ax → q ≠ .dx → t.x16 q = s.x16 q) ∧
        SameMem s t ∧ SixFlags s t (resultFlags t.dxAx tooWide tooWide false) ∧ SameBeyondAlu s t) ∧
    (∀ rm, let n : Int := (s.x8 .al).toInt * (s.rdRm8 rm).toInt
      let tooWide := decide (n < -128 ∨ 127 < n)
      ∃ t, exec (.imulRm8 rm) s = .next t ∧ (t.x16 .ax).toInt = n ∧ (∀ q, q ≠ .ax → t.x16 q = s.x16 q) ∧ SameMem s t ∧
        SixFlags s t (resultFlags (t.x16 .ax) tooWide tooWide false) ∧ SameBeyondAlu s t) ∧
    ∀ rm, let n : Int := (s.x16 .ax).toInt * (s.rdRm16 rm).toInt
      let tooWide := decide (n < -32768 ∨ 32767 < n)
      ∃ t, exec (.imulRm16 rm) s = .next t ∧ t.dxAx.toInt = n ∧ (∀ q, q ≠ .ax → q ≠ .dx → t.x16 q = s.x16 q) ∧
        SameMem s t ∧ SixFlags s t (resultFlags t.dxAx tooWide tooWide false) ∧ SameBeyondAlu s t

/-- DIV, byte and word: quotient and remainder when the quotient fits, and DivideFault otherwise (R247, R330). -/
def Obligations.DivDividesOrFaults : Prop :=
  ∀ (s : State),
    (∀ rm, let d := (s.rdRm8 rm).toNat
      let n := (s.x16 .ax).toNat
      (d ≠ 0 ∧ n / d ≤ 0xFF → ∃ t, exec (.divRm8 rm) s = .next t ∧ (t.x8 .al).toNat * d + (t.x8 .ah).toNat = n ∧
        (t.x8 .ah).toNat < d ∧ (∀ q, q ≠ .ax → t.x16 q = s.x16 q) ∧ SameMem s t ∧
        SixFlags s t (resultFlags (t.x8 .al) false false false) ∧ SameBeyondAlu s t) ∧
      (d = 0 ∨ 0xFF < n / d → Raises (.divRm8 rm) s .divideFault 0xF6)) ∧
    ∀ rm, let d := (s.rdRm16 rm).toNat
      let n := (s.x16 .dx).toNat * 65536 + (s.x16 .ax).toNat
      (d ≠ 0 ∧ n / d ≤ 0xFFFF → ∃ t, exec (.divRm16 rm) s = .next t ∧
        (t.x16 .ax).toNat * d + (t.x16 .dx).toNat = n ∧ (t.x16 .dx).toNat < d ∧
        (∀ q, q ≠ .ax → q ≠ .dx → t.x16 q = s.x16 q) ∧ SameMem s t ∧
        SixFlags s t (resultFlags (t.x16 .ax) false false false) ∧ SameBeyondAlu s t) ∧
      (d = 0 ∨ 0xFFFF < n / d → Raises (.divRm16 rm) s .divideFault 0xF7)

/-- IDIV, byte and word: truncated quotient and remainder of the dividend's sign when it fits, else DivideFault (R247,
R331). -/
def Obligations.IdivDividesOrFaults : Prop :=
  ∀ (s : State),
    (∀ rm, let d := (s.rdRm8 rm).toInt
      let n := (s.x16 .ax).toInt
      (d ≠ 0 ∧ -0x80 ≤ n.tdiv d ∧ n.tdiv d ≤ 0x7F → ∃ t, exec (.idivRm8 rm) s = .next t ∧
        (t.x8 .al).toInt * d + (t.x8 .ah).toInt = n ∧ (t.x8 .ah).toInt.natAbs < d.natAbs ∧
        0 ≤ (t.x8 .ah).toInt * n ∧ (∀ q, q ≠ .ax → t.x16 q = s.x16 q) ∧ SameMem s t ∧
        SixFlags s t (resultFlags (t.x8 .al) false false false) ∧ SameBeyondAlu s t) ∧
      (d = 0 ∨ n.tdiv d < -0x80 ∨ 0x7F < n.tdiv d → Raises (.idivRm8 rm) s .divideFault 0xF6)) ∧
    ∀ rm, let d := (s.rdRm16 rm).toInt
      let n := (s.x16 .dx).toInt * 65536 + (s.x16 .ax).toNat
      (d ≠ 0 ∧ -0x8000 ≤ n.tdiv d ∧ n.tdiv d ≤ 0x7FFF → ∃ t, exec (.idivRm16 rm) s = .next t ∧
        (t.x16 .ax).toInt * d + (t.x16 .dx).toInt = n ∧ (t.x16 .dx).toInt.natAbs < d.natAbs ∧
        0 ≤ (t.x16 .dx).toInt * n ∧ (∀ q, q ≠ .ax → q ≠ .dx → t.x16 q = s.x16 q) ∧ SameMem s t ∧
        SixFlags s t (resultFlags (t.x16 .ax) false false false) ∧ SameBeyondAlu s t) ∧
      (d = 0 ∨ n.tdiv d < -0x8000 ∨ 0x7FFF < n.tdiv d → Raises (.idivRm16 rm) s .divideFault 0xF7)

/-! ## Data movement -/

/-- MOV between register and r/m, the four forms: the destination holds the source, and nothing else changes (R280).
-/
def Obligations.MovBetweenRegisterAndRm : Prop :=
  ∀ (s : State),
    (∀ rm r, Moves8 (.movRm8R8 rm r) s (s.place rm) (s.x8 r)) ∧
    (∀ rm r, Moves16 (.movRm16R16 rm r) s (s.place rm) (s.x16 r)) ∧
    (∀ r rm, Moves8 (.movR8Rm8 r rm) s (.reg r) (s.rdRm8 rm)) ∧
    ∀ r rm, Moves16 (.movR16Rm16 r rm) s (.reg r) (s.rdRm16 rm)

/-- MOV with an immediate and MOV with a direct memory offset: the destination holds the source, and nothing else
changes (R281, R282, R285, R286). -/
def Obligations.MovImmediateAndDirectMemory : Prop :=
  ∀ (s : State),
    (∀ r imm, Moves8 (movRegImm8 r imm) s (.reg r) imm) ∧
    (∀ r imm, Moves16 (movRegImm16 r imm) s (.reg r) imm) ∧
    (∀ rm imm, Moves8 (.movRm8Imm8 rm imm) s (s.place rm) imm) ∧
    (∀ rm imm, Moves16 (.movRm16Imm16 rm imm) s (s.place rm) imm) ∧
    ∀ (off : Word), let seg := match s.segOverride with
        | none => s.sreg .ds
        | some r => s.sreg r
      Moves8 (.movAlMoffs8 off) s (.reg .al) (s.memRead8 seg off) ∧
      Moves16 (.movAxMoffs16 off) s (.reg .ax) (s.memRead16 seg off) ∧
      Moves8 (.movMoffs8Al off) s (.mem seg off) (s.x8 .al) ∧
      Moves16 (.movMoffs16Ax off) s (.mem seg off) (s.x16 .ax)

/-- MOV from and to a segment register: which are read, which are written, and that nothing else changes (R283, R284).
-/
def Obligations.MovSegmentRegister : Prop :=
  ∀ (s : State),
    (∀ rm sr, Moves16 (.movRm16Sreg rm sr) s (s.place rm) (s.sreg sr)) ∧
    (∀ rm, LoadsSeg (.movEsRm16 rm) s .es (s.rdRm16 rm)) ∧
    (∀ rm, LoadsSeg (.movSsDsRm16 .ss rm) s .ss (s.rdRm16 rm)) ∧
    ∀ rm, LoadsSeg (.movSsDsRm16 .ds rm) s .ds (s.rdRm16 rm)

/-- XCHG, byte and word, with r/m or with AX: both operands are read before either is written, and nothing else
changes (R287, R288). -/
def Obligations.XchgSwaps : Prop :=
  ∀ (s : State),
    (∀ rm r, ∃ t, exec (.xchgRm8R8 rm r) s = .next t ∧ t.flags = s.flags ∧ SameBeyondAlu s t ∧
      (∀ p, rm = .reg p → t.x8 p = s.x8 r ∧ t.x8 r = s.x8 p ∧ (∀ q, q ≠ p → q ≠ r → t.x8 q = s.x8 q) ∧
        (∀ q, q ≠ wordReg p → q ≠ wordReg r → t.x16 q = s.x16 q) ∧
        SameMem s t) ∧
      ∀ m, rm = .mem m → Reg8Written s t r (s.rdRm8 rm) ∧ Byte8Written s t s.dataSeg (s.ea m) (s.x8 r)) ∧
    (∀ rm r, ∃ t, exec (.xchgRm16R16 rm r) s = .next t ∧ t.flags = s.flags ∧ SameBeyondAlu s t ∧
      (∀ p, rm = .reg p → t.x16 p = s.x16 r ∧ t.x16 r = s.x16 p ∧ (∀ q, q ≠ p → q ≠ r → t.x16 q = s.x16 q) ∧
        SameMem s t) ∧
      ∀ m, rm = .mem m → Reg16Written s t r (s.rdRm16 rm) ∧ Word16Written s t s.dataSeg (s.ea m) (s.x16 r)) ∧
    ∀ r, r ≠ .ax → ∃ t, exec (xchgAxReg r) s = .next t ∧ t.x16 .ax = s.x16 r ∧ t.x16 r = s.x16 .ax ∧
      (∀ q, q ≠ .ax → q ≠ r → t.x16 q = s.x16 q) ∧ SameMem s t ∧ t.flags = s.flags ∧ SameBeyondAlu s t

/-- LEA, CBW and CWD: the value each writes, and that nothing else changes (R289, R290, R291). -/
def Obligations.LeaCbwCwd : Prop :=
  ∀ (s : State),
    (∀ r m, Moves16 (.leaR16M r m) s (.reg r) (s.ea m)) ∧
    Moves16 .cbw s (.reg .ax) (BitVec.ofInt 16 (s.x8 .al).toInt) ∧
    Moves16 .cwd s (.reg .dx) (if 0x8000 ≤ (s.x16 .ax).toNat then 0xFFFF else 0x0000)

/-- NOP changes nothing; LAHF writes AH from five flags; SAHF writes five flags from AH, and O, TF, IF, DF stay (R292,
R295, R296). -/
def Obligations.NopLahfSahf : Prop :=
  ∀ (s : State), exec .nop s = .next s ∧
    Moves8 .lahf s (.reg .ah) (BitVec.ofNat 8 (s.flags.sf.toNat * 128 + s.flags.zf.toNat * 64 + s.flags.af.toNat * 16 +
      s.flags.pf.toNat * 4 + 2 + s.flags.cf.toNat)) ∧
    SetsFlags .sahf s
      { s.flags with
        sf := (s.x8 .ah).getLsbD 7, zf := (s.x8 .ah).getLsbD 6, af := (s.x8 .ah).getLsbD 4,
        pf := (s.x8 .ah).getLsbD 2, cf := (s.x8 .ah).getLsbD 0 }

/-! ## Stack -/

/-- PUSH of a register, segment register or r/m16, and PUSHF: SP moves down by 2, the word is at SS:SP, nothing else
(R381, R383, R385, R388). -/
def Obligations.PushMovesSpAndStores : Prop :=
  ∀ (s : State), 2 ≤ (s.x16 .sp).toNat →
    (∀ r, Pushes (pushReg r) s (if r = .sp then s.x16 .sp - 2 else s.x16 r)) ∧
    (∀ r, Pushes (pushSeg r) s (s.sreg r)) ∧
    (∀ rm, Pushes (.pushRm16 rm) s (if rm = .reg .sp then s.x16 .sp - 2 else s.rdRm16 rm)) ∧
    Pushes .pushf s s.flags.word

/-- POP into a register, segment register or r/m16, and POPF: the word at SS:SP is delivered and SP moves up by 2
(R382, R384, R386, R387, R389). -/
def Obligations.PopLoadsAndMovesSp : Prop :=
  ∀ (s : State), (s.x16 .sp).toNat + 2 ≤ 0xFFFF →
    let v := s.memRead16 (s.sreg .ss) (s.x16 .sp)
    let intoReg := fun (i : Instr) (r : Reg16) => ∃ t, exec i s = .next t ∧ t.x16 r = v ∧
      (r ≠ .sp → t.x16 .sp = s.x16 .sp + 2) ∧ (∀ q, q ≠ r → q ≠ .sp → t.x16 q = s.x16 q) ∧ SameMem s t ∧
      t.flags = s.flags ∧ SameBeyondAlu s t
    let intoSeg := fun (i : Instr) (r : SegReg) => ∃ t, exec i s = .next t ∧ t.sreg r = v ∧
      (∀ q, q ≠ r → t.sreg q = s.sreg q) ∧ Reg16Written s t .sp (s.x16 .sp + 2) ∧ SameMem s t ∧ t.flags = s.flags ∧
      SameFetch s t ∧ SameControl s t
    (∀ r, intoReg (popReg r) r) ∧ (∀ r, intoReg (.popRm16 (.reg r)) r) ∧
    intoSeg .popEs .es ∧ intoSeg .popSs .ss ∧ intoSeg .popDs .ds ∧
    (∀ m, ∃ t, exec (.popRm16 (.mem m)) s = .next t ∧ Reg16Written s t .sp (s.x16 .sp + 2) ∧
      Word16Written s t s.dataSeg (s.ea m) v ∧ t.flags = s.flags ∧ SameBeyondAlu s t) ∧
    ∃ t, exec .popf s = .next t ∧ t.flags = Flags.ofWord v ∧ Reg16Written s t .sp (s.x16 .sp + 2) ∧ SameMem s t ∧
      SameBeyondAlu s t

/-- A push faults iff SP < 2, a pop iff SP >= 0xFFFE, RET imm16 iff SP + 2 + imm16 > 0xFFFF; before any change
(45_stack.md R380, 45_stack.md R383 to R389, 46_control_transfer.md R423 to R426). -/
def Obligations.StackFaultBounds : Prop :=
  ∀ (s : State),
    let low := (s.x16 .sp).toNat < 2
    let high := 0xFFFE ≤ (s.x16 .sp).toNat
    (∀ r, StackFaultsIff (pushReg r) s low) ∧ (∀ r, StackFaultsIff (pushSeg r) s low) ∧
    (∀ rm, StackFaultsIff (.pushRm16 rm) s low) ∧ StackFaultsIff .pushf s low ∧
    (∀ rel, StackFaultsIff (.callRel16 rel) s low) ∧ (∀ rm, StackFaultsIff (.callRm16 rm) s low) ∧
    (∀ r, StackFaultsIff (popReg r) s high) ∧ StackFaultsIff .popEs s high ∧ StackFaultsIff .popSs s high ∧
    StackFaultsIff .popDs s high ∧ (∀ rm, StackFaultsIff (.popRm16 rm) s high) ∧ StackFaultsIff .popf s high ∧
    StackFaultsIff .ret s high ∧
    ∀ imm, StackFaultsIff (.retImm16 imm) s (0xFFFF < (s.x16 .sp).toNat + 2 + imm.toNat)

/-! ## Control transfer and processor control -/

/-- JMP rel8, rel16 and r/m16: the queue is emptied and IP is the target; nothing else changes (R215, R400, R402). -/
def Obligations.JmpTransfersControl : Prop :=
  ∀ (s : State), (∀ rel, JumpsTo (.jmpRel8 rel) s (relTarget s rel)) ∧
    (∀ rel, JumpsTo (.jmpRel16 rel) s (BitVec.ofNat 16 (s.archIp.toNat + rel.toNat))) ∧
    ∀ rm, JumpsTo (.jmpRm16 rm) s (s.rdRm16 rm)

/-- JO, JNO, JB, JAE, JE, JNE, JBE, JA: the condition on which each is taken, and that nothing else changes (R401,
R403, R404, R405, R406, R407, R408, R409, R410). -/
def Obligations.JumpsOnOverflowCarryZero : Prop :=
  ∀ (s : State) (rel : Byte),
    JumpsIf (.joRel8 rel) s (s.flags.ovf = true) (relTarget s rel) ∧
    JumpsIf (.jnoRel8 rel) s (s.flags.ovf = false) (relTarget s rel) ∧
    JumpsIf (.jbRel8 rel) s (s.flags.cf = true) (relTarget s rel) ∧
    JumpsIf (.jaeRel8 rel) s (s.flags.cf = false) (relTarget s rel) ∧
    JumpsIf (.jeRel8 rel) s (s.flags.zf = true) (relTarget s rel) ∧
    JumpsIf (.jneRel8 rel) s (s.flags.zf = false) (relTarget s rel) ∧
    JumpsIf (.jbeRel8 rel) s (s.flags.cf = true ∨ s.flags.zf = true) (relTarget s rel) ∧
    JumpsIf (.jaRel8 rel) s (s.flags.cf = false ∧ s.flags.zf = false) (relTarget s rel)

/-- JS, JNS, JP, JNP, JL, JGE, JLE, JG: the condition on which each is taken, and that nothing else changes (R401,
R411, R412, R413, R414, R415, R416, R417, R418). -/
def Obligations.JumpsOnSignParityOrder : Prop :=
  ∀ (s : State) (rel : Byte),
    JumpsIf (.jsRel8 rel) s (s.flags.sf = true) (relTarget s rel) ∧
    JumpsIf (.jnsRel8 rel) s (s.flags.sf = false) (relTarget s rel) ∧
    JumpsIf (.jpRel8 rel) s (s.flags.pf = true) (relTarget s rel) ∧
    JumpsIf (.jnpRel8 rel) s (s.flags.pf = false) (relTarget s rel) ∧
    JumpsIf (.jlRel8 rel) s (s.flags.sf ≠ s.flags.ovf) (relTarget s rel) ∧
    JumpsIf (.jgeRel8 rel) s (s.flags.sf = s.flags.ovf) (relTarget s rel) ∧
    JumpsIf (.jleRel8 rel) s (s.flags.zf = true ∨ s.flags.sf ≠ s.flags.ovf) (relTarget s rel) ∧
    JumpsIf (.jgRel8 rel) s (s.flags.zf = false ∧ s.flags.sf = s.flags.ovf) (relTarget s rel)

/-- LOOP, LOOPE and LOOPNE decrement CX and jump while it is not 0 (and on Z); JCXZ jumps iff CX is 0 (R419, R420,
R421, R422). -/
def Obligations.LoopsAndJcxz : Prop :=
  ∀ (s : State) (rel : Byte),
    LoopsIf (.loopRel8 rel) s True (relTarget s rel) ∧
    LoopsIf (.loopeRel8 rel) s (s.flags.zf = true) (relTarget s rel) ∧
    LoopsIf (.loopneRel8 rel) s (s.flags.zf = false) (relTarget s rel) ∧
    JumpsIf (.jcxzRel8 rel) s (s.x16 .cx = 0) (relTarget s rel)

/-- CALL rel16 and r/m16: nextIP is pushed and control goes to the target, which was read before the push (R423,
R424). -/
def Obligations.CallPushesReturnOffset : Prop :=
  ∀ (s : State),
    (2 ≤ (s.x16 .sp).toNat →
      (∀ rel, Calls (.callRel16 rel) s s.archIp (BitVec.ofNat 16 (s.archIp.toNat + rel.toNat))) ∧
      ∀ rm, Calls (.callRm16 rm) s s.archIp (s.rdRm16 rm)) ∧
    ((s.x16 .sp).toNat < 2 → (∀ rel, Raises (.callRel16 rel) s .stackFault 0xE8) ∧
      ∀ rm, Raises (.callRm16 rm) s .stackFault 0xFF)

/-- RET and RET imm16: control goes to the word at SS:SP and SP moves up by 2 and by imm16 (R425, R426). -/
def Obligations.RetPopsReturnOffset : Prop :=
  ∀ (s : State),
    let returns := fun (i : Instr) (sp : Word) => ∃ t, exec i s = .next t ∧ t.queue = [] ∧
      t.ip = s.memRead16 (s.sreg .ss) (s.x16 .sp) ∧ Reg16Written s t .sp sp ∧ SameMem s t ∧ t.flags = s.flags ∧
      SameSegs s t ∧ SameControl s t
    ((s.x16 .sp).toNat + 2 ≤ 0xFFFF → returns .ret (s.x16 .sp + 2)) ∧
    (0xFFFF < (s.x16 .sp).toNat + 2 → Raises .ret s .stackFault 0xC3) ∧
    ∀ (imm : Word), ((s.x16 .sp).toNat + 2 + imm.toNat ≤ 0xFFFF →
        returns (.retImm16 imm) (BitVec.ofNat 16 ((s.x16 .sp).toNat + 2 + imm.toNat))) ∧
      (0xFFFF < (s.x16 .sp).toNat + 2 + imm.toNat → Raises (.retImm16 imm) s .stackFault 0xC2)

/-- HLT halts and keeps the queue; CLC, STC, CMC, CLI, STI, CLD, STD each write one flag and nothing else (R450, R451,
R452, R453, R454, R455, R456, R457). -/
def Obligations.HltAndFlagControl : Prop :=
  ∀ (s : State), exec .hlt s = .next { s with status := .halted, haltReason := .hlt } ∧
    SetsFlags .clc s { s.flags with cf := false } ∧ SetsFlags .stc s { s.flags with cf := true } ∧
    SetsFlags .cmc s { s.flags with cf := !s.flags.cf } ∧
    SetsFlags .cli s { s.flags with ief := false } ∧ SetsFlags .sti s { s.flags with ief := true } ∧
    SetsFlags .cld s { s.flags with df := false } ∧ SetsFlags .std s { s.flags with df := true }

/-- The host reads haltReason with the status, and so tells HLT from the end of the program (10_state.md R54,
10_state.md R61, 40_step_and_queue.md R218, 47_processor_control.md R450, 70_reset_and_hazards.md R542). -/
def Obligations.HostReadsHowTheProgramEnded : Prop :=
  (∀ (s t : State), s.steps → step s = .next t →
    (∀ pre rest, decode s.beginStep.window = .ok pre .hlt rest →
      queryStatus t = .ok (.halted, .hlt) ∧ queryIsDone t = .ok true) ∧
    (decode s.beginStep.window = .endOfProgram →
      queryStatus t = .ok (.halted, .endOfProgram) ∧ queryIsDone t = .ok true)) ∧
  ∀ (s : State), s.status = .noImage → queryStatus s = .error .notLoaded
end

