-- ==== Sys2Proof/Laws/Memory.lean ====
section
/-! SUPPORT. The laws of memory as a list of cells: read after write, and the canonical form. -/

namespace Sys2Proof.Machine

namespace Memory

theorem erase_cons (c : Host.Cell) (m : Memory) (a : Nat) :
    Memory.erase (c :: m) a = if c.1 = a then Memory.erase m a else c :: Memory.erase m a := by
  by_cases h : c.1 = a <;> simp [Memory.erase, h]

theorem read_erase_same (m : Memory) (a : Nat) : Memory.read (Memory.erase m a) a = Memory.unlisted := by
  induction m with
  | nil => rfl
  | cons c m ih => rw [erase_cons]; split <;> simp_all [Memory.read]

theorem read_erase_other (m : Memory) {a x : Nat} (hx : x ≠ a) :
    Memory.read (Memory.erase m a) x = Memory.read m x := by
  induction m with
  | nil => rfl
  | cons c m ih =>
    rw [erase_cons]
    split
    · rename_i h
      have hc : c.1 ≠ x := fun e => hx (e.symm.trans h)
      simp [Memory.read, hc, ih]
    · simp [Memory.read, ih]

theorem read_insert_same (m : Memory) (a : Nat) (b : Byte) (hm : ∀ c ∈ m, c.1 ≠ a) :
    Memory.read (Memory.insert m a b) a = b := by
  induction m with
  | nil => simp [Memory.insert, Memory.read]
  | cons c m ih =>
    have hc : c.1 ≠ a := hm c (by simp)
    unfold Memory.insert
    split
    · simp [Memory.read]
    · simpa [Memory.read, hc] using ih fun d hd => hm d (by simp [hd])

theorem read_insert_other (m : Memory) {a x : Nat} (b : Byte) (hx : x ≠ a) :
    Memory.read (Memory.insert m a b) x = Memory.read m x := by
  induction m with
  | nil => simp [Memory.insert, Memory.read, Ne.symm hx]
  | cons c m ih =>
    unfold Memory.insert
    split
    · simp [Memory.read, Ne.symm hx]
    · simp [Memory.read, ih]

theorem mem_erase {m : Memory} {a : Nat} {c : Host.Cell} : c ∈ Memory.erase m a ↔ c ∈ m ∧ c.1 ≠ a := by
  simp [Memory.erase]

theorem mem_insert {m : Memory} {a : Nat} {b : Byte} {c : Host.Cell} :
    c ∈ Memory.insert m a b ↔ c = (a, b) ∨ c ∈ m := by
  induction m with
  | nil => simp [Memory.insert]
  | cons d m ih =>
    unfold Memory.insert
    split
    · simp
    · simp [ih, or_left_comm]

@[simp] theorem read_write_same (m : Memory) (a : Nat) (b : Byte) : Memory.read (Memory.write m a b) a = b := by
  unfold Memory.write
  split
  · rename_i h; rw [read_erase_same, h]
  · exact read_insert_same _ _ _ fun c hc => (mem_erase.mp hc).2

theorem read_write_other (m : Memory) {a x : Nat} (b : Byte) (hx : x ≠ a) :
    Memory.read (Memory.write m a b) x = Memory.read m x := by
  unfold Memory.write
  split
  · exact read_erase_other m hx
  · rw [read_insert_other _ _ hx, read_erase_other m hx]

theorem read_write (m : Memory) (a x : Nat) (b : Byte) :
    Memory.read (Memory.write m a b) x = if x = a then b else Memory.read m x := by
  split
  · rename_i h; subst h; simp
  · rename_i h; exact read_write_other m b h

/-- Every cell a write leaves was there before or is the cell written. -/
theorem mem_write {m : Memory} {a : Nat} {b : Byte} {c : Host.Cell} (h : c ∈ Memory.write m a b) :
    c = (a, b) ∧ b ≠ Memory.unlisted ∨ c ∈ m := by
  unfold Memory.write at h
  split at h
  · exact .inr (mem_erase.mp h).1
  · rename_i hb
    exact (mem_insert.mp h).elim (fun e => .inl ⟨e, hb⟩) fun e => .inr (mem_erase.mp e).1

theorem insert_sorted {m : Memory} (a : Nat) (b : Byte) (hs : m.Pairwise fun c d => c.1 < d.1)
    (ha : ∀ c ∈ m, c.1 ≠ a) : (Memory.insert m a b).Pairwise fun c d => c.1 < d.1 := by
  induction m with
  | nil => simp [Memory.insert]
  | cons c m ih =>
    obtain ⟨hc, hm⟩ := List.pairwise_cons.mp hs
    unfold Memory.insert
    split
    · rename_i h
      refine List.pairwise_cons.mpr ⟨fun d hd => ?_, hs⟩
      rcases List.mem_cons.mp hd with rfl | hd
      · exact h
      · exact Nat.lt_trans h (hc d hd)
    · rename_i h
      refine List.pairwise_cons.mpr ⟨fun d hd => ?_, ih hm fun d hd => ha d (by simp [hd])⟩
      rcases mem_insert.mp hd with rfl | hd
      · exact Nat.lt_of_le_of_ne (Nat.le_of_not_lt h) (ha c (by simp))
      · exact hc d hd

/-- A write keeps the canonical form. -/
theorem write_wf {m : Memory} (a : Nat) (b : Byte) (h : Memory.wf m) : Memory.wf (Memory.write m a b) := by
  refine ⟨?_, fun c hc => ?_⟩
  · have hs : (Memory.erase m a).Pairwise fun c d => c.1 < d.1 := h.1.filter _
    unfold Memory.write
    split
    · exact hs
    · exact insert_sorted a b hs fun c hc => (mem_erase.mp hc).2
  · rcases mem_write hc with ⟨rfl, hb⟩ | hc
    · exact hb
    · exact h.2 c hc

/-- A write inside the store lists no address outside it. -/
theorem write_below {m : Memory} {n a : Nat} (b : Byte) (h : ∀ c ∈ m, c.1 < n) (ha : a < n) :
    ∀ c ∈ Memory.write m a b, c.1 < n := fun c hc =>
  (mem_write hc).elim (fun e => e.1 ▸ ha) (h c)

end Memory

/-- R81 reduces every address into the store, so the check of R82 passes. -/
theorem lin_lt (s : State) (seg off : Word) (h : 1 ≤ s.memSize) : s.lin seg off < s.memSize :=
  Nat.mod_lt _ h

theorem memOk_memWrite8 {s : State} (seg off : Word) (v : Byte) (h : s.memOk) (hc : 1 ≤ s.memSize) :
    (s.memWrite8 seg off v).memOk :=
  ⟨Memory.write_wf _ _ h.1, Memory.write_below _ h.2 (lin_lt s seg off hc)⟩

theorem memOk_memWrite16 {s : State} (seg off v : Word) (h : s.memOk) (hc : 1 ≤ s.memSize) :
    (s.memWrite16 seg off v).memOk :=
  memOk_memWrite8 _ _ _ (memOk_memWrite8 _ _ _ h hc) hc

theorem byte8Written_memWrite8 (s : State) (seg off : Word) (v : Byte) :
    Byte8Written s (s.memWrite8 seg off v) seg off v :=
  ⟨Memory.read_write_same _ _ _, fun _ ha => Memory.read_write_other _ _ ha⟩

theorem word16Written_memWrite16 (s : State) (seg off v : Word) :
    Word16Written s (s.memWrite16 seg off v) seg off v := by
  refine ⟨Memory.read_write_same _ _ _, fun h => ?_, fun a h1 h2 => ?_⟩
  · exact (Memory.read_write_other _ _ h).trans (Memory.read_write_same _ _ _)
  · exact (Memory.read_write_other _ _ h2).trans (Memory.read_write_other _ _ h1)

end Sys2Proof.Machine
end

