-- ==== Sys2Proof/Laws/State.lean ====
section
/-! SUPPORT. One lemma per field per named update of the state, each true by rfl, so that no later proof unfolds a record
update. -/

namespace Sys2Proof.Machine

variable (s : State)

@[simp] theorem setX16_regs (r : Reg16) (v : Word) : (s.setX16 r v).regs = s.regs.set r v := rfl
@[simp] theorem setX16_segs (r : Reg16) (v : Word) : (s.setX16 r v).segs = s.segs := rfl
@[simp] theorem setX16_flags (r : Reg16) (v : Word) : (s.setX16 r v).flags = s.flags := rfl
@[simp] theorem setX16_ip (r : Reg16) (v : Word) : (s.setX16 r v).ip = s.ip := rfl
@[simp] theorem setX16_queue (r : Reg16) (v : Word) : (s.setX16 r v).queue = s.queue := rfl
@[simp] theorem setX16_mem (r : Reg16) (v : Word) : (s.setX16 r v).mem = s.mem := rfl
@[simp] theorem setX16_status (r : Reg16) (v : Word) : (s.setX16 r v).status = s.status := rfl
@[simp] theorem setX16_haltReason (r : Reg16) (v : Word) : (s.setX16 r v).haltReason = s.haltReason := rfl
@[simp] theorem setX16_faultKind (r : Reg16) (v : Word) : (s.setX16 r v).faultKind = s.faultKind := rfl
@[simp] theorem setX16_faultIp (r : Reg16) (v : Word) : (s.setX16 r v).faultIp = s.faultIp := rfl
@[simp] theorem setX16_faultOpcode (r : Reg16) (v : Word) : (s.setX16 r v).faultOpcode = s.faultOpcode := rfl
@[simp] theorem setX16_memSize (r : Reg16) (v : Word) : (s.setX16 r v).memSize = s.memSize := rfl
@[simp] theorem setX16_queueCap (r : Reg16) (v : Word) : (s.setX16 r v).queueCap = s.queueCap := rfl
@[simp] theorem setX16_segBase (r : Reg16) (v : Word) : (s.setX16 r v).segBase = s.segBase := rfl
@[simp] theorem setX16_codeLo (r : Reg16) (v : Word) : (s.setX16 r v).codeLo = s.codeLo := rfl
@[simp] theorem setX16_codeHi (r : Reg16) (v : Word) : (s.setX16 r v).codeHi = s.codeHi := rfl
@[simp] theorem setX16_image (r : Reg16) (v : Word) : (s.setX16 r v).image = s.image := rfl
@[simp] theorem setX16_instrStart (r : Reg16) (v : Word) : (s.setX16 r v).instrStart = s.instrStart := rfl
@[simp] theorem setX16_segOverride (r : Reg16) (v : Word) : (s.setX16 r v).segOverride = s.segOverride := rfl

@[simp] theorem setX8_regs (r : Reg8) (v : Byte) : (s.setX8 r v).regs = s.regs.set8 r v := rfl
@[simp] theorem setX8_segs (r : Reg8) (v : Byte) : (s.setX8 r v).segs = s.segs := rfl
@[simp] theorem setX8_flags (r : Reg8) (v : Byte) : (s.setX8 r v).flags = s.flags := rfl
@[simp] theorem setX8_ip (r : Reg8) (v : Byte) : (s.setX8 r v).ip = s.ip := rfl
@[simp] theorem setX8_queue (r : Reg8) (v : Byte) : (s.setX8 r v).queue = s.queue := rfl
@[simp] theorem setX8_mem (r : Reg8) (v : Byte) : (s.setX8 r v).mem = s.mem := rfl
@[simp] theorem setX8_status (r : Reg8) (v : Byte) : (s.setX8 r v).status = s.status := rfl
@[simp] theorem setX8_haltReason (r : Reg8) (v : Byte) : (s.setX8 r v).haltReason = s.haltReason := rfl
@[simp] theorem setX8_faultKind (r : Reg8) (v : Byte) : (s.setX8 r v).faultKind = s.faultKind := rfl
@[simp] theorem setX8_faultIp (r : Reg8) (v : Byte) : (s.setX8 r v).faultIp = s.faultIp := rfl
@[simp] theorem setX8_faultOpcode (r : Reg8) (v : Byte) : (s.setX8 r v).faultOpcode = s.faultOpcode := rfl
@[simp] theorem setX8_memSize (r : Reg8) (v : Byte) : (s.setX8 r v).memSize = s.memSize := rfl
@[simp] theorem setX8_queueCap (r : Reg8) (v : Byte) : (s.setX8 r v).queueCap = s.queueCap := rfl
@[simp] theorem setX8_segBase (r : Reg8) (v : Byte) : (s.setX8 r v).segBase = s.segBase := rfl
@[simp] theorem setX8_codeLo (r : Reg8) (v : Byte) : (s.setX8 r v).codeLo = s.codeLo := rfl
@[simp] theorem setX8_codeHi (r : Reg8) (v : Byte) : (s.setX8 r v).codeHi = s.codeHi := rfl
@[simp] theorem setX8_image (r : Reg8) (v : Byte) : (s.setX8 r v).image = s.image := rfl
@[simp] theorem setX8_instrStart (r : Reg8) (v : Byte) : (s.setX8 r v).instrStart = s.instrStart := rfl
@[simp] theorem setX8_segOverride (r : Reg8) (v : Byte) : (s.setX8 r v).segOverride = s.segOverride := rfl

@[simp] theorem setSreg_regs (r : SegReg) (v : Word) : (s.setSreg r v).regs = s.regs := rfl
@[simp] theorem setSreg_segs (r : SegReg) (v : Word) : (s.setSreg r v).segs = s.segs.set r v := rfl
@[simp] theorem setSreg_flags (r : SegReg) (v : Word) : (s.setSreg r v).flags = s.flags := rfl
@[simp] theorem setSreg_ip (r : SegReg) (v : Word) : (s.setSreg r v).ip = s.ip := rfl
@[simp] theorem setSreg_queue (r : SegReg) (v : Word) : (s.setSreg r v).queue = s.queue := rfl
@[simp] theorem setSreg_mem (r : SegReg) (v : Word) : (s.setSreg r v).mem = s.mem := rfl
@[simp] theorem setSreg_status (r : SegReg) (v : Word) : (s.setSreg r v).status = s.status := rfl
@[simp] theorem setSreg_haltReason (r : SegReg) (v : Word) : (s.setSreg r v).haltReason = s.haltReason := rfl
@[simp] theorem setSreg_faultKind (r : SegReg) (v : Word) : (s.setSreg r v).faultKind = s.faultKind := rfl
@[simp] theorem setSreg_faultIp (r : SegReg) (v : Word) : (s.setSreg r v).faultIp = s.faultIp := rfl
@[simp] theorem setSreg_faultOpcode (r : SegReg) (v : Word) : (s.setSreg r v).faultOpcode = s.faultOpcode := rfl
@[simp] theorem setSreg_memSize (r : SegReg) (v : Word) : (s.setSreg r v).memSize = s.memSize := rfl
@[simp] theorem setSreg_queueCap (r : SegReg) (v : Word) : (s.setSreg r v).queueCap = s.queueCap := rfl
@[simp] theorem setSreg_segBase (r : SegReg) (v : Word) : (s.setSreg r v).segBase = s.segBase := rfl
@[simp] theorem setSreg_codeLo (r : SegReg) (v : Word) : (s.setSreg r v).codeLo = s.codeLo := rfl
@[simp] theorem setSreg_codeHi (r : SegReg) (v : Word) : (s.setSreg r v).codeHi = s.codeHi := rfl
@[simp] theorem setSreg_image (r : SegReg) (v : Word) : (s.setSreg r v).image = s.image := rfl
@[simp] theorem setSreg_instrStart (r : SegReg) (v : Word) : (s.setSreg r v).instrStart = s.instrStart := rfl
@[simp] theorem setSreg_segOverride (r : SegReg) (v : Word) : (s.setSreg r v).segOverride = s.segOverride := rfl

@[simp] theorem setFlags_regs (f : Flags) : (s.setFlags f).regs = s.regs := rfl
@[simp] theorem setFlags_segs (f : Flags) : (s.setFlags f).segs = s.segs := rfl
@[simp] theorem setFlags_flags (f : Flags) : (s.setFlags f).flags = f := rfl
@[simp] theorem setFlags_ip (f : Flags) : (s.setFlags f).ip = s.ip := rfl
@[simp] theorem setFlags_queue (f : Flags) : (s.setFlags f).queue = s.queue := rfl
@[simp] theorem setFlags_mem (f : Flags) : (s.setFlags f).mem = s.mem := rfl
@[simp] theorem setFlags_status (f : Flags) : (s.setFlags f).status = s.status := rfl
@[simp] theorem setFlags_haltReason (f : Flags) : (s.setFlags f).haltReason = s.haltReason := rfl
@[simp] theorem setFlags_faultKind (f : Flags) : (s.setFlags f).faultKind = s.faultKind := rfl
@[simp] theorem setFlags_faultIp (f : Flags) : (s.setFlags f).faultIp = s.faultIp := rfl
@[simp] theorem setFlags_faultOpcode (f : Flags) : (s.setFlags f).faultOpcode = s.faultOpcode := rfl
@[simp] theorem setFlags_memSize (f : Flags) : (s.setFlags f).memSize = s.memSize := rfl
@[simp] theorem setFlags_queueCap (f : Flags) : (s.setFlags f).queueCap = s.queueCap := rfl
@[simp] theorem setFlags_segBase (f : Flags) : (s.setFlags f).segBase = s.segBase := rfl
@[simp] theorem setFlags_codeLo (f : Flags) : (s.setFlags f).codeLo = s.codeLo := rfl
@[simp] theorem setFlags_codeHi (f : Flags) : (s.setFlags f).codeHi = s.codeHi := rfl
@[simp] theorem setFlags_image (f : Flags) : (s.setFlags f).image = s.image := rfl
@[simp] theorem setFlags_instrStart (f : Flags) : (s.setFlags f).instrStart = s.instrStart := rfl
@[simp] theorem setFlags_segOverride (f : Flags) : (s.setFlags f).segOverride = s.segOverride := rfl

@[simp] theorem memWrite8_regs (g o : Word) (v : Byte) : (s.memWrite8 g o v).regs = s.regs := rfl
@[simp] theorem memWrite8_segs (g o : Word) (v : Byte) : (s.memWrite8 g o v).segs = s.segs := rfl
@[simp] theorem memWrite8_flags (g o : Word) (v : Byte) : (s.memWrite8 g o v).flags = s.flags := rfl
@[simp] theorem memWrite8_ip (g o : Word) (v : Byte) : (s.memWrite8 g o v).ip = s.ip := rfl
@[simp] theorem memWrite8_queue (g o : Word) (v : Byte) : (s.memWrite8 g o v).queue = s.queue := rfl
@[simp] theorem memWrite8_mem (g o : Word) (v : Byte) : (s.memWrite8 g o v).mem = s.mem.write (s.lin g o) v := rfl
@[simp] theorem memWrite8_status (g o : Word) (v : Byte) : (s.memWrite8 g o v).status = s.status := rfl
@[simp] theorem memWrite8_haltReason (g o : Word) (v : Byte) : (s.memWrite8 g o v).haltReason = s.haltReason := rfl
@[simp] theorem memWrite8_faultKind (g o : Word) (v : Byte) : (s.memWrite8 g o v).faultKind = s.faultKind := rfl
@[simp] theorem memWrite8_faultIp (g o : Word) (v : Byte) : (s.memWrite8 g o v).faultIp = s.faultIp := rfl
@[simp] theorem memWrite8_faultOpcode (g o : Word) (v : Byte) : (s.memWrite8 g o v).faultOpcode = s.faultOpcode := rfl
@[simp] theorem memWrite8_memSize (g o : Word) (v : Byte) : (s.memWrite8 g o v).memSize = s.memSize := rfl
@[simp] theorem memWrite8_queueCap (g o : Word) (v : Byte) : (s.memWrite8 g o v).queueCap = s.queueCap := rfl
@[simp] theorem memWrite8_segBase (g o : Word) (v : Byte) : (s.memWrite8 g o v).segBase = s.segBase := rfl
@[simp] theorem memWrite8_codeLo (g o : Word) (v : Byte) : (s.memWrite8 g o v).codeLo = s.codeLo := rfl
@[simp] theorem memWrite8_codeHi (g o : Word) (v : Byte) : (s.memWrite8 g o v).codeHi = s.codeHi := rfl
@[simp] theorem memWrite8_image (g o : Word) (v : Byte) : (s.memWrite8 g o v).image = s.image := rfl
@[simp] theorem memWrite8_instrStart (g o : Word) (v : Byte) : (s.memWrite8 g o v).instrStart = s.instrStart := rfl
@[simp] theorem memWrite8_segOverride (g o : Word) (v : Byte) : (s.memWrite8 g o v).segOverride = s.segOverride := rfl

@[simp] theorem memWrite16_regs (g o v : Word) : (s.memWrite16 g o v).regs = s.regs := rfl
@[simp] theorem memWrite16_segs (g o v : Word) : (s.memWrite16 g o v).segs = s.segs := rfl
@[simp] theorem memWrite16_flags (g o v : Word) : (s.memWrite16 g o v).flags = s.flags := rfl
@[simp] theorem memWrite16_ip (g o v : Word) : (s.memWrite16 g o v).ip = s.ip := rfl
@[simp] theorem memWrite16_queue (g o v : Word) : (s.memWrite16 g o v).queue = s.queue := rfl
@[simp] theorem memWrite16_mem (g o v : Word) : (s.memWrite16 g o v).mem = (s.mem.write (s.lin g o) (loByte v)).write (s.lin g (o + 1)) (hiByte v) := rfl
@[simp] theorem memWrite16_status (g o v : Word) : (s.memWrite16 g o v).status = s.status := rfl
@[simp] theorem memWrite16_haltReason (g o v : Word) : (s.memWrite16 g o v).haltReason = s.haltReason := rfl
@[simp] theorem memWrite16_faultKind (g o v : Word) : (s.memWrite16 g o v).faultKind = s.faultKind := rfl
@[simp] theorem memWrite16_faultIp (g o v : Word) : (s.memWrite16 g o v).faultIp = s.faultIp := rfl
@[simp] theorem memWrite16_faultOpcode (g o v : Word) : (s.memWrite16 g o v).faultOpcode = s.faultOpcode := rfl
@[simp] theorem memWrite16_memSize (g o v : Word) : (s.memWrite16 g o v).memSize = s.memSize := rfl
@[simp] theorem memWrite16_queueCap (g o v : Word) : (s.memWrite16 g o v).queueCap = s.queueCap := rfl
@[simp] theorem memWrite16_segBase (g o v : Word) : (s.memWrite16 g o v).segBase = s.segBase := rfl
@[simp] theorem memWrite16_codeLo (g o v : Word) : (s.memWrite16 g o v).codeLo = s.codeLo := rfl
@[simp] theorem memWrite16_codeHi (g o v : Word) : (s.memWrite16 g o v).codeHi = s.codeHi := rfl
@[simp] theorem memWrite16_image (g o v : Word) : (s.memWrite16 g o v).image = s.image := rfl
@[simp] theorem memWrite16_instrStart (g o v : Word) : (s.memWrite16 g o v).instrStart = s.instrStart := rfl
@[simp] theorem memWrite16_segOverride (g o v : Word) : (s.memWrite16 g o v).segOverride = s.segOverride := rfl

@[simp] theorem jump_regs (t : Word) : (s.jump t).regs = s.regs := rfl
@[simp] theorem jump_segs (t : Word) : (s.jump t).segs = s.segs := rfl
@[simp] theorem jump_flags (t : Word) : (s.jump t).flags = s.flags := rfl
@[simp] theorem jump_ip (t : Word) : (s.jump t).ip = t := rfl
@[simp] theorem jump_queue (t : Word) : (s.jump t).queue = [] := rfl
@[simp] theorem jump_mem (t : Word) : (s.jump t).mem = s.mem := rfl
@[simp] theorem jump_status (t : Word) : (s.jump t).status = s.status := rfl
@[simp] theorem jump_haltReason (t : Word) : (s.jump t).haltReason = s.haltReason := rfl
@[simp] theorem jump_faultKind (t : Word) : (s.jump t).faultKind = s.faultKind := rfl
@[simp] theorem jump_faultIp (t : Word) : (s.jump t).faultIp = s.faultIp := rfl
@[simp] theorem jump_faultOpcode (t : Word) : (s.jump t).faultOpcode = s.faultOpcode := rfl
@[simp] theorem jump_memSize (t : Word) : (s.jump t).memSize = s.memSize := rfl
@[simp] theorem jump_queueCap (t : Word) : (s.jump t).queueCap = s.queueCap := rfl
@[simp] theorem jump_segBase (t : Word) : (s.jump t).segBase = s.segBase := rfl
@[simp] theorem jump_codeLo (t : Word) : (s.jump t).codeLo = s.codeLo := rfl
@[simp] theorem jump_codeHi (t : Word) : (s.jump t).codeHi = s.codeHi := rfl
@[simp] theorem jump_image (t : Word) : (s.jump t).image = s.image := rfl
@[simp] theorem jump_instrStart (t : Word) : (s.jump t).instrStart = s.instrStart := rfl
@[simp] theorem jump_segOverride (t : Word) : (s.jump t).segOverride = s.segOverride := rfl

@[simp] theorem abandon_regs : (s.abandon).regs = s.regs := rfl
@[simp] theorem abandon_segs : (s.abandon).segs = s.segs := rfl
@[simp] theorem abandon_flags : (s.abandon).flags = s.flags := rfl
@[simp] theorem abandon_ip : (s.abandon).ip = s.instrStart := rfl
@[simp] theorem abandon_queue : (s.abandon).queue = [] := rfl
@[simp] theorem abandon_mem : (s.abandon).mem = s.mem := rfl
@[simp] theorem abandon_status : (s.abandon).status = s.status := rfl
@[simp] theorem abandon_haltReason : (s.abandon).haltReason = s.haltReason := rfl
@[simp] theorem abandon_faultKind : (s.abandon).faultKind = s.faultKind := rfl
@[simp] theorem abandon_faultIp : (s.abandon).faultIp = s.faultIp := rfl
@[simp] theorem abandon_faultOpcode : (s.abandon).faultOpcode = s.faultOpcode := rfl
@[simp] theorem abandon_memSize : (s.abandon).memSize = s.memSize := rfl
@[simp] theorem abandon_queueCap : (s.abandon).queueCap = s.queueCap := rfl
@[simp] theorem abandon_segBase : (s.abandon).segBase = s.segBase := rfl
@[simp] theorem abandon_codeLo : (s.abandon).codeLo = s.codeLo := rfl
@[simp] theorem abandon_codeHi : (s.abandon).codeHi = s.codeHi := rfl
@[simp] theorem abandon_image : (s.abandon).image = s.image := rfl
@[simp] theorem abandon_instrStart : (s.abandon).instrStart = s.instrStart := rfl
@[simp] theorem abandon_segOverride : (s.abandon).segOverride = s.segOverride := rfl

@[simp] theorem raise_regs (k : FaultKind) (c : Byte) : (s.raise k c).regs = s.regs := rfl
@[simp] theorem raise_segs (k : FaultKind) (c : Byte) : (s.raise k c).segs = s.segs := rfl
@[simp] theorem raise_flags (k : FaultKind) (c : Byte) : (s.raise k c).flags = s.flags := rfl
@[simp] theorem raise_ip (k : FaultKind) (c : Byte) : (s.raise k c).ip = s.instrStart := rfl
@[simp] theorem raise_queue (k : FaultKind) (c : Byte) : (s.raise k c).queue = [] := rfl
@[simp] theorem raise_mem (k : FaultKind) (c : Byte) : (s.raise k c).mem = s.mem := rfl
@[simp] theorem raise_status (k : FaultKind) (c : Byte) : (s.raise k c).status = .faulted := rfl
@[simp] theorem raise_haltReason (k : FaultKind) (c : Byte) : (s.raise k c).haltReason = s.haltReason := rfl
@[simp] theorem raise_faultKind (k : FaultKind) (c : Byte) : (s.raise k c).faultKind = k := rfl
@[simp] theorem raise_faultIp (k : FaultKind) (c : Byte) : (s.raise k c).faultIp = s.instrStart := rfl
@[simp] theorem raise_faultOpcode (k : FaultKind) (c : Byte) : (s.raise k c).faultOpcode = c := rfl
@[simp] theorem raise_memSize (k : FaultKind) (c : Byte) : (s.raise k c).memSize = s.memSize := rfl
@[simp] theorem raise_queueCap (k : FaultKind) (c : Byte) : (s.raise k c).queueCap = s.queueCap := rfl
@[simp] theorem raise_segBase (k : FaultKind) (c : Byte) : (s.raise k c).segBase = s.segBase := rfl
@[simp] theorem raise_codeLo (k : FaultKind) (c : Byte) : (s.raise k c).codeLo = s.codeLo := rfl
@[simp] theorem raise_codeHi (k : FaultKind) (c : Byte) : (s.raise k c).codeHi = s.codeHi := rfl
@[simp] theorem raise_image (k : FaultKind) (c : Byte) : (s.raise k c).image = s.image := rfl
@[simp] theorem raise_instrStart (k : FaultKind) (c : Byte) : (s.raise k c).instrStart = s.instrStart := rfl
@[simp] theorem raise_segOverride (k : FaultKind) (c : Byte) : (s.raise k c).segOverride = s.segOverride := rfl

@[simp] theorem endOfProgram_regs : (s.endOfProgram).regs = s.regs := rfl
@[simp] theorem endOfProgram_segs : (s.endOfProgram).segs = s.segs := rfl
@[simp] theorem endOfProgram_flags : (s.endOfProgram).flags = s.flags := rfl
@[simp] theorem endOfProgram_ip : (s.endOfProgram).ip = s.instrStart := rfl
@[simp] theorem endOfProgram_queue : (s.endOfProgram).queue = [] := rfl
@[simp] theorem endOfProgram_mem : (s.endOfProgram).mem = s.mem := rfl
@[simp] theorem endOfProgram_status : (s.endOfProgram).status = .halted := rfl
@[simp] theorem endOfProgram_haltReason : (s.endOfProgram).haltReason = .endOfProgram := rfl
@[simp] theorem endOfProgram_faultKind : (s.endOfProgram).faultKind = s.faultKind := rfl
@[simp] theorem endOfProgram_faultIp : (s.endOfProgram).faultIp = s.faultIp := rfl
@[simp] theorem endOfProgram_faultOpcode : (s.endOfProgram).faultOpcode = s.faultOpcode := rfl
@[simp] theorem endOfProgram_memSize : (s.endOfProgram).memSize = s.memSize := rfl
@[simp] theorem endOfProgram_queueCap : (s.endOfProgram).queueCap = s.queueCap := rfl
@[simp] theorem endOfProgram_segBase : (s.endOfProgram).segBase = s.segBase := rfl
@[simp] theorem endOfProgram_codeLo : (s.endOfProgram).codeLo = s.codeLo := rfl
@[simp] theorem endOfProgram_codeHi : (s.endOfProgram).codeHi = s.codeHi := rfl
@[simp] theorem endOfProgram_image : (s.endOfProgram).image = s.image := rfl
@[simp] theorem endOfProgram_instrStart : (s.endOfProgram).instrStart = s.instrStart := rfl
@[simp] theorem endOfProgram_segOverride : (s.endOfProgram).segOverride = s.segOverride := rfl

@[simp] theorem push16_regs (v : Word) : (s.push16 v).regs = s.regs.set .sp (s.x16 .sp - 2) := rfl
@[simp] theorem push16_segs (v : Word) : (s.push16 v).segs = s.segs := rfl
@[simp] theorem push16_flags (v : Word) : (s.push16 v).flags = s.flags := rfl
@[simp] theorem push16_ip (v : Word) : (s.push16 v).ip = s.ip := rfl
@[simp] theorem push16_queue (v : Word) : (s.push16 v).queue = s.queue := rfl
@[simp] theorem push16_mem (v : Word) : (s.push16 v).mem = ((s.setX16 .sp (s.x16 .sp - 2)).memWrite16 (s.sreg .ss) ((s.setX16 .sp (s.x16 .sp - 2)).x16 .sp) v).mem := rfl
@[simp] theorem push16_status (v : Word) : (s.push16 v).status = s.status := rfl
@[simp] theorem push16_haltReason (v : Word) : (s.push16 v).haltReason = s.haltReason := rfl
@[simp] theorem push16_faultKind (v : Word) : (s.push16 v).faultKind = s.faultKind := rfl
@[simp] theorem push16_faultIp (v : Word) : (s.push16 v).faultIp = s.faultIp := rfl
@[simp] theorem push16_faultOpcode (v : Word) : (s.push16 v).faultOpcode = s.faultOpcode := rfl
@[simp] theorem push16_memSize (v : Word) : (s.push16 v).memSize = s.memSize := rfl
@[simp] theorem push16_queueCap (v : Word) : (s.push16 v).queueCap = s.queueCap := rfl
@[simp] theorem push16_segBase (v : Word) : (s.push16 v).segBase = s.segBase := rfl
@[simp] theorem push16_codeLo (v : Word) : (s.push16 v).codeLo = s.codeLo := rfl
@[simp] theorem push16_codeHi (v : Word) : (s.push16 v).codeHi = s.codeHi := rfl
@[simp] theorem push16_image (v : Word) : (s.push16 v).image = s.image := rfl
@[simp] theorem push16_instrStart (v : Word) : (s.push16 v).instrStart = s.instrStart := rfl
@[simp] theorem push16_segOverride (v : Word) : (s.push16 v).segOverride = s.segOverride := rfl

@[simp] theorem endStep_regs : (s.endStep).regs = s.regs := rfl
@[simp] theorem endStep_segs : (s.endStep).segs = s.segs := rfl
@[simp] theorem endStep_flags : (s.endStep).flags = s.flags := rfl
@[simp] theorem endStep_ip : (s.endStep).ip = s.ip := rfl
@[simp] theorem endStep_queue : (s.endStep).queue = s.queue := rfl
@[simp] theorem endStep_mem : (s.endStep).mem = s.mem := rfl
@[simp] theorem endStep_status : (s.endStep).status = s.status := rfl
@[simp] theorem endStep_haltReason : (s.endStep).haltReason = s.haltReason := rfl
@[simp] theorem endStep_faultKind : (s.endStep).faultKind = s.faultKind := rfl
@[simp] theorem endStep_faultIp : (s.endStep).faultIp = s.faultIp := rfl
@[simp] theorem endStep_faultOpcode : (s.endStep).faultOpcode = s.faultOpcode := rfl
@[simp] theorem endStep_memSize : (s.endStep).memSize = s.memSize := rfl
@[simp] theorem endStep_queueCap : (s.endStep).queueCap = s.queueCap := rfl
@[simp] theorem endStep_segBase : (s.endStep).segBase = s.segBase := rfl
@[simp] theorem endStep_codeLo : (s.endStep).codeLo = s.codeLo := rfl
@[simp] theorem endStep_codeHi : (s.endStep).codeHi = s.codeHi := rfl
@[simp] theorem endStep_image : (s.endStep).image = s.image := rfl
@[simp] theorem endStep_instrStart : (s.endStep).instrStart = 0 := rfl
@[simp] theorem endStep_segOverride : (s.endStep).segOverride = none := rfl

@[simp] theorem writePlace8_segs (p : Place Reg8) (v : Byte) : (s.writePlace8 p v).segs = s.segs := by cases p <;> rfl
@[simp] theorem writePlace8_flags (p : Place Reg8) (v : Byte) : (s.writePlace8 p v).flags = s.flags := by cases p <;> rfl
@[simp] theorem writePlace8_ip (p : Place Reg8) (v : Byte) : (s.writePlace8 p v).ip = s.ip := by cases p <;> rfl
@[simp] theorem writePlace8_queue (p : Place Reg8) (v : Byte) : (s.writePlace8 p v).queue = s.queue := by cases p <;> rfl
@[simp] theorem writePlace8_status (p : Place Reg8) (v : Byte) : (s.writePlace8 p v).status = s.status := by cases p <;> rfl
@[simp] theorem writePlace8_haltReason (p : Place Reg8) (v : Byte) : (s.writePlace8 p v).haltReason = s.haltReason := by cases p <;> rfl
@[simp] theorem writePlace8_faultKind (p : Place Reg8) (v : Byte) : (s.writePlace8 p v).faultKind = s.faultKind := by cases p <;> rfl
@[simp] theorem writePlace8_faultIp (p : Place Reg8) (v : Byte) : (s.writePlace8 p v).faultIp = s.faultIp := by cases p <;> rfl
@[simp] theorem writePlace8_faultOpcode (p : Place Reg8) (v : Byte) : (s.writePlace8 p v).faultOpcode = s.faultOpcode := by cases p <;> rfl
@[simp] theorem writePlace8_memSize (p : Place Reg8) (v : Byte) : (s.writePlace8 p v).memSize = s.memSize := by cases p <;> rfl
@[simp] theorem writePlace8_queueCap (p : Place Reg8) (v : Byte) : (s.writePlace8 p v).queueCap = s.queueCap := by cases p <;> rfl
@[simp] theorem writePlace8_segBase (p : Place Reg8) (v : Byte) : (s.writePlace8 p v).segBase = s.segBase := by cases p <;> rfl
@[simp] theorem writePlace8_codeLo (p : Place Reg8) (v : Byte) : (s.writePlace8 p v).codeLo = s.codeLo := by cases p <;> rfl
@[simp] theorem writePlace8_codeHi (p : Place Reg8) (v : Byte) : (s.writePlace8 p v).codeHi = s.codeHi := by cases p <;> rfl
@[simp] theorem writePlace8_image (p : Place Reg8) (v : Byte) : (s.writePlace8 p v).image = s.image := by cases p <;> rfl
@[simp] theorem writePlace8_instrStart (p : Place Reg8) (v : Byte) : (s.writePlace8 p v).instrStart = s.instrStart := by cases p <;> rfl
@[simp] theorem writePlace8_segOverride (p : Place Reg8) (v : Byte) : (s.writePlace8 p v).segOverride = s.segOverride := by cases p <;> rfl

@[simp] theorem writePlace16_segs (p : Place Reg16) (v : Word) : (s.writePlace16 p v).segs = s.segs := by cases p <;> rfl
@[simp] theorem writePlace16_flags (p : Place Reg16) (v : Word) : (s.writePlace16 p v).flags = s.flags := by cases p <;> rfl
@[simp] theorem writePlace16_ip (p : Place Reg16) (v : Word) : (s.writePlace16 p v).ip = s.ip := by cases p <;> rfl
@[simp] theorem writePlace16_queue (p : Place Reg16) (v : Word) : (s.writePlace16 p v).queue = s.queue := by cases p <;> rfl
@[simp] theorem writePlace16_status (p : Place Reg16) (v : Word) : (s.writePlace16 p v).status = s.status := by cases p <;> rfl
@[simp] theorem writePlace16_haltReason (p : Place Reg16) (v : Word) : (s.writePlace16 p v).haltReason = s.haltReason := by cases p <;> rfl
@[simp] theorem writePlace16_faultKind (p : Place Reg16) (v : Word) : (s.writePlace16 p v).faultKind = s.faultKind := by cases p <;> rfl
@[simp] theorem writePlace16_faultIp (p : Place Reg16) (v : Word) : (s.writePlace16 p v).faultIp = s.faultIp := by cases p <;> rfl
@[simp] theorem writePlace16_faultOpcode (p : Place Reg16) (v : Word) : (s.writePlace16 p v).faultOpcode = s.faultOpcode := by cases p <;> rfl
@[simp] theorem writePlace16_memSize (p : Place Reg16) (v : Word) : (s.writePlace16 p v).memSize = s.memSize := by cases p <;> rfl
@[simp] theorem writePlace16_queueCap (p : Place Reg16) (v : Word) : (s.writePlace16 p v).queueCap = s.queueCap := by cases p <;> rfl
@[simp] theorem writePlace16_segBase (p : Place Reg16) (v : Word) : (s.writePlace16 p v).segBase = s.segBase := by cases p <;> rfl
@[simp] theorem writePlace16_codeLo (p : Place Reg16) (v : Word) : (s.writePlace16 p v).codeLo = s.codeLo := by cases p <;> rfl
@[simp] theorem writePlace16_codeHi (p : Place Reg16) (v : Word) : (s.writePlace16 p v).codeHi = s.codeHi := by cases p <;> rfl
@[simp] theorem writePlace16_image (p : Place Reg16) (v : Word) : (s.writePlace16 p v).image = s.image := by cases p <;> rfl
@[simp] theorem writePlace16_instrStart (p : Place Reg16) (v : Word) : (s.writePlace16 p v).instrStart = s.instrStart := by cases p <;> rfl
@[simp] theorem writePlace16_segOverride (p : Place Reg16) (v : Word) : (s.writePlace16 p v).segOverride = s.segOverride := by cases p <;> rfl

end Sys2Proof.Machine
end

