-- ==== Sys2Proof/Laws/Registers.lean ====
section
/-! SUPPORT. Reading registers after writing them, and what a write to an operand place changes. -/

namespace Sys2Proof.Machine

@[simp] theorem hiByte_wordOf (b0 b1 : Byte) : hiByte (wordOf b0 b1) = b1 := by
  apply BitVec.eq_of_getLsbD_eq; intro i hi
  simp only [hiByte, wordOf, BitVec.getLsbD_extractLsb', BitVec.getLsbD_append]
  simp [hi]

@[simp] theorem loByte_wordOf (b0 b1 : Byte) : loByte (wordOf b0 b1) = b0 := by
  apply BitVec.eq_of_getLsbD_eq; intro i hi
  simp only [loByte, wordOf, BitVec.getLsbD_extractLsb', BitVec.getLsbD_append]
  simp [hi]

@[simp] theorem wordOf_lo_hi (w : Word) : wordOf (loByte w) (hiByte w) = w := by
  apply BitVec.eq_of_getLsbD_eq; intro i hi
  simp only [wordOf, loByte, hiByte, BitVec.getLsbD_append, BitVec.getLsbD_extractLsb']
  by_cases h : i < 8
  · simp [h]
  · have h2 : i - 8 < 8 := by omega
    have h3 : 8 + (i - 8) = i := by omega
    simp [h, h2, h3]

theorem get_set (g : Regs) (r q : Reg16) (v : Word) : (g.set r v).get q = if q = r then v else g.get q := by
  cases r <;> cases q <;> rfl

@[simp] theorem get_set_same (g : Regs) (r : Reg16) (v : Word) : (g.set r v).get r = v := by simp [get_set]

theorem get_set_other (g : Regs) {r q : Reg16} (v : Word) (h : q ≠ r) : (g.set r v).get q = g.get q := by
  simp [get_set, h]

/-- Writing back what a register holds changes nothing. -/
@[simp] theorem set_get (g : Regs) (r : Reg16) : g.set r (g.get r) = g := by cases r <;> rfl

/-- Two register files that read the same are the same. -/
theorem regs_ext {g h : Regs} (e : ∀ r, g.get r = h.get r) : g = h := by
  cases g; cases h
  simp only [Regs.mk.injEq]
  exact ⟨e .ax, e .cx, e .dx, e .bx, e .sp, e .bp, e .si, e .di⟩

@[simp] theorem get8_set8_same (g : Regs) (r : Reg8) (v : Byte) : (g.set8 r v).get8 r = v := by
  cases r <;> simp [Regs.set8, Regs.get8, isHigh]

theorem get8_set8_other (g : Regs) {r q : Reg8} (v : Byte) (h : q ≠ r) : (g.set8 r v).get8 q = g.get8 q := by
  cases r <;> cases q <;> first
    | exact absurd rfl h
    | simp [Regs.set8, Regs.get8, isHigh, wordReg, get_set]

theorem get_set8_other (g : Regs) {r : Reg8} {q : Reg16} (v : Byte) (h : q ≠ wordReg r) :
    (g.set8 r v).get q = g.get q := by simp [Regs.set8, get_set, h]

/-- A word register after a write to one of its halves (10_state.md R32). -/
theorem get_set8_same (g : Regs) (r : Reg8) (v : Byte) :
    (g.set8 r v).get (wordReg r) =
      if isHigh r then wordOf (loByte (g.get (wordReg r))) v else wordOf v (hiByte (g.get (wordReg r))) := by
  simp [Regs.set8]

theorem segs_get_set (g : SegRegs) (r q : SegReg) (v : Word) : (g.set r v).get q = if q = r then v else g.get q := by
  cases r <;> cases q <;> rfl

theorem reg8Written_setX8 (s : State) (r : Reg8) (v : Byte) : Reg8Written s (s.setX8 r v) r v :=
  ⟨get8_set8_same _ _ _, fun _ h => get8_set8_other _ _ h, fun _ h => get_set8_other _ _ h⟩

theorem reg16Written_setX16 (s : State) (r : Reg16) (v : Word) : Reg16Written s (s.setX16 r v) r v :=
  ⟨get_set_same _ _ _, fun _ h => get_set_other _ _ h⟩

/-- What `wr_rm(8, v)` changes among registers and memory. -/
theorem stored8_writePlace8 (s : State) (p : Place Reg8) (v : Byte) : Stored8 s (s.writePlace8 p v) p v := by
  cases p with
  | reg r => exact ⟨reg8Written_setX8 s r v, fun _ => rfl⟩
  | mem seg off => exact ⟨fun _ => rfl, byte8Written_memWrite8 s seg off v⟩

/-- What `wr_rm(16, v)` changes among registers and memory. -/
theorem stored16_writePlace16 (s : State) (p : Place Reg16) (v : Word) : Stored16 s (s.writePlace16 p v) p v := by
  cases p with
  | reg r => exact ⟨reg16Written_setX16 s r v, fun _ => rfl⟩
  | mem seg off => exact ⟨fun _ => rfl, word16Written_memWrite16 s seg off v⟩

theorem memOk_writePlace8 {s : State} (p : Place Reg8) (v : Byte) (h : s.memOk) (hc : 1 ≤ s.memSize) :
    (s.writePlace8 p v).memOk := by
  cases p with
  | reg r => exact h
  | mem seg off => exact memOk_memWrite8 _ _ _ h hc

theorem memOk_writePlace16 {s : State} (p : Place Reg16) (v : Word) (h : s.memOk) (hc : 1 ≤ s.memSize) :
    (s.writePlace16 p v).memOk := by
  cases p with
  | reg r => exact h
  | mem seg off => exact memOk_memWrite16 _ _ _ h hc

end Sys2Proof.Machine
end

