-- ==== Sys2Proof/Laws/Queue.lean ====
section
/-! SUPPORT. What the prefetch-queue controller can do: it changes the queue and the BIU IP only, keeps archIP, and keeps
the queue within its capacity. -/

namespace Sys2Proof.Machine

/-- A prefetch tick appends the byte at CS:IP, or changes nothing. -/
theorem prefetchTick_cases (s : State) :
    (s.queue.length < s.queueCap ∧ s.inWindow s.ip = true ∧
      s.prefetchTick = { s with queue := s.queue ++ [s.memRead8 (s.sreg .cs) s.ip], ip := s.ip + 1 }) ∨
    ((s.queueCap ≤ s.queue.length ∨ s.inWindow s.ip = false) ∧ s.prefetchTick = s) := by
  unfold State.prefetchTick
  split
  · rename_i h
    simp only [Bool.and_eq_true, decide_eq_true_eq] at h
    exact .inl ⟨h.1, h.2, rfl⟩
  · rename_i h
    simp only [Bool.and_eq_true, decide_eq_true_eq, not_and_or, Bool.not_eq_true, Nat.not_lt] at h
    exact .inr ⟨h, rfl⟩

/-- Only the queue and the BIU IP differ. -/
abbrev FetchOnly (s t : State) : Prop := t = { s with queue := t.queue, ip := t.ip }

theorem FetchOnly.trans {s t u : State} (h : FetchOnly s t) (k : FetchOnly t u) : FetchOnly s u := by
  unfold FetchOnly at *; rw [k, h]

theorem fetchOnly_prefetchTick (s : State) : FetchOnly s s.prefetchTick := by
  rcases prefetchTick_cases s with ⟨_, _, h⟩ | ⟨_, h⟩ <;> rw [h]

theorem fetchOnly_prefetchTicks (n : Nat) (s : State) : FetchOnly s (s.prefetchTicks n) := by
  induction n generalizing s with
  | zero => rfl
  | succ n ih => exact (fetchOnly_prefetchTick s).trans (ih _)

theorem fetchOnly_topUp (s : State) : FetchOnly s s.topUp := fetchOnly_prefetchTicks _ s

theorem archIp_prefetchTick (s : State) : s.prefetchTick.archIp = s.archIp := by
  rcases prefetchTick_cases s with ⟨_, _, h⟩ | ⟨_, h⟩
  · rw [h]
    simp only [State.archIp, List.length_append, List.length_singleton, BitVec.ofNat_add]
    exact add_sub_add_right_eq_sub _ _ _
  · rw [h]

theorem archIp_prefetchTicks (n : Nat) (s : State) : (s.prefetchTicks n).archIp = s.archIp := by
  induction n generalizing s with
  | zero => rfl
  | succ n ih => exact (ih _).trans (archIp_prefetchTick s)

/-- Prefetch keeps archIP (10_state.md R34). -/
@[simp] theorem archIp_topUp (s : State) : s.topUp.archIp = s.archIp := archIp_prefetchTicks _ s

theorem queueOk_prefetchTick {s : State} (h : s.queueOk) : s.prefetchTick.queueOk := by
  rcases prefetchTick_cases s with ⟨hq, _, e⟩ | ⟨_, e⟩
  · rw [e]; simpa [State.queueOk] using hq
  · rwa [e]

theorem queueOk_prefetchTicks {n : Nat} {s : State} (h : s.queueOk) : (s.prefetchTicks n).queueOk := by
  induction n generalizing s with
  | zero => exact h
  | succ n ih => exact ih (queueOk_prefetchTick h)

theorem queueOk_topUp {s : State} (h : s.queueOk) : s.topUp.queueOk := queueOk_prefetchTicks h

/-- What `fetchByte` delivers: the front of the queue, topped up first when it is empty. -/
theorem fetchByte_some {s t : State} {b : Byte} (h : s.fetchByte = some (b, t)) :
    ∃ u, (u = s ∨ u = s.topUp) ∧ u.queue = b :: t.queue ∧ t = { u with queue := t.queue } := by
  unfold State.fetchByte at h
  by_cases he : s.queue.isEmpty
  · simp only [he, if_true] at h
    split at h
    · cases h
    · rename_i b' q hq
      simp only [Option.some.injEq, Prod.mk.injEq] at h
      obtain ⟨rfl, rfl⟩ := h
      exact ⟨_, .inr rfl, hq, rfl⟩
  · simp only [he] at h
    split at h
    · cases h
    · rename_i b' q hq
      simp only [Option.some.injEq, Prod.mk.injEq] at h
      obtain ⟨rfl, rfl⟩ := h
      exact ⟨s, .inl rfl, hq, rfl⟩

theorem fetchOnly_fetchByte {s t : State} {b : Byte} (h : s.fetchByte = some (b, t)) : FetchOnly s t := by
  obtain ⟨u, hu, _, ht⟩ := fetchByte_some h
  have hsu : FetchOnly s u := by
    rcases hu with rfl | rfl
    · rfl
    · exact fetchOnly_topUp s
  refine hsu.trans ?_
  unfold FetchOnly
  rw [ht]

theorem queueOk_fetchByte {s t : State} {b : Byte} (h : s.fetchByte = some (b, t)) (hq : s.queueOk) : t.queueOk := by
  obtain ⟨u, hu, hb, ht⟩ := fetchByte_some h
  have hu' : u.queueOk := by
    rcases hu with rfl | rfl
    · exact hq
    · exact queueOk_topUp hq
  have hc : t.queueCap = u.queueCap := by rw [ht]
  unfold State.queueOk at *
  rw [hb, List.length_cons] at hu'
  omega

theorem fetchOnly_consume (n : Nat) (s : State) : FetchOnly s (s.consume n) := by
  induction n generalizing s with
  | zero => rfl
  | succ n ih =>
    unfold State.consume
    split
    · rfl
    · rename_i b t h
      exact (fetchOnly_fetchByte h).trans (ih t)

theorem queueOk_consume {n : Nat} {s : State} (h : s.queueOk) : (s.consume n).queueOk := by
  induction n generalizing s with
  | zero => exact h
  | succ n ih =>
    unfold State.consume
    split
    · exact h
    · rename_i b t e
      exact ih (queueOk_fetchByte e h)

end Sys2Proof.Machine
end

