-- ==== Sys2Proof/Laws/Exec.lean ====
section
/-! SUPPORT. What executing an instruction can do, said once: it takes a next state, which either is the state after a
fault or keeps everything that `Kept` names. -/

namespace Sys2Proof.Machine

/-- What an instruction that raises no fault keeps. -/
structure Kept (s t : State) : Prop where
  config : SameConfig s t
  fault : SameFault s t
  start : t.instrStart = s.instrStart
  cs : t.segs.cs = s.segs.cs
  fetch : SameFetch s t ∨ t.queue = []
  status : t.status = s.status ∧ t.haltReason = s.haltReason ∨ t.status = .halted ∧ t.haltReason = .hlt
  mem : s.memOk → 1 ≤ s.memSize → t.memOk

theorem Kept.refl (s : State) : Kept s s :=
  ⟨⟨rfl, rfl, rfl, rfl, rfl, rfl⟩, ⟨rfl, rfl, rfl⟩, rfl, rfl, .inl ⟨rfl, rfl⟩, .inl ⟨rfl, rfl⟩, fun h _ => h⟩

/-- An update that keeps all that `Kept` names but memory, the halt status and the queue, and those as given. -/
theorem Kept.trans {s t u : State} (h : Kept s t) (k : Kept t u) : Kept s u where
  config := by
    obtain ⟨h1, h2, h3, h4, h5, h6⟩ := h.config
    obtain ⟨k1, k2, k3, k4, k5, k6⟩ := k.config
    exact ⟨k1.trans h1, k2.trans h2, k3.trans h3, k4.trans h4, k5.trans h5, k6.trans h6⟩
  fault := by
    obtain ⟨h1, h2, h3⟩ := h.fault
    obtain ⟨k1, k2, k3⟩ := k.fault
    exact ⟨k1.trans h1, k2.trans h2, k3.trans h3⟩
  start := k.start.trans h.start
  cs := k.cs.trans h.cs
  fetch := by
    have := h.fetch
    rcases k.fetch with ⟨hq, hi⟩ | hq
    · rcases this with ⟨hq', hi'⟩ | hq'
      · exact .inl ⟨hq.trans hq', hi.trans hi'⟩
      · exact .inr (hq.trans hq')
    · exact .inr hq
  status := by
    rcases k.status with ⟨h1, h2⟩ | k2
    · rw [h1, h2]; exact h.status
    · exact .inr k2
  mem := fun hm hc => k.mem (h.mem hm hc) (by rw [h.config.1]; exact hc)

theorem kept_setX16 (s : State) (r : Reg16) (v : Word) : Kept s (s.setX16 r v) :=
  ⟨⟨rfl, rfl, rfl, rfl, rfl, rfl⟩, ⟨rfl, rfl, rfl⟩, rfl, rfl, .inl ⟨rfl, rfl⟩, .inl ⟨rfl, rfl⟩, fun h _ => h⟩

theorem kept_setX8 (s : State) (r : Reg8) (v : Byte) : Kept s (s.setX8 r v) :=
  ⟨⟨rfl, rfl, rfl, rfl, rfl, rfl⟩, ⟨rfl, rfl, rfl⟩, rfl, rfl, .inl ⟨rfl, rfl⟩, .inl ⟨rfl, rfl⟩, fun h _ => h⟩

theorem kept_setFlags (s : State) (f : Flags) : Kept s (s.setFlags f) :=
  ⟨⟨rfl, rfl, rfl, rfl, rfl, rfl⟩, ⟨rfl, rfl, rfl⟩, rfl, rfl, .inl ⟨rfl, rfl⟩, .inl ⟨rfl, rfl⟩, fun h _ => h⟩

theorem kept_setSreg (s : State) {r : SegReg} (v : Word) (hr : r ≠ .cs) : Kept s (s.setSreg r v) :=
  ⟨⟨rfl, rfl, rfl, rfl, rfl, rfl⟩, ⟨rfl, rfl, rfl⟩, rfl, by cases r <;> first | rfl | exact absurd rfl hr, .inl ⟨rfl, rfl⟩, .inl ⟨rfl, rfl⟩,
    fun h _ => h⟩

theorem kept_memWrite8 (s : State) (g o : Word) (v : Byte) : Kept s (s.memWrite8 g o v) :=
  ⟨⟨rfl, rfl, rfl, rfl, rfl, rfl⟩, ⟨rfl, rfl, rfl⟩, rfl, rfl, .inl ⟨rfl, rfl⟩, .inl ⟨rfl, rfl⟩, memOk_memWrite8 g o v⟩

theorem kept_memWrite16 (s : State) (g o v : Word) : Kept s (s.memWrite16 g o v) :=
  ⟨⟨rfl, rfl, rfl, rfl, rfl, rfl⟩, ⟨rfl, rfl, rfl⟩, rfl, rfl, .inl ⟨rfl, rfl⟩, .inl ⟨rfl, rfl⟩, memOk_memWrite16 g o v⟩

theorem kept_writePlace8 (s : State) (p : Place Reg8) (v : Byte) : Kept s (s.writePlace8 p v) := by
  cases p with
  | reg r => exact kept_setX8 s r v
  | mem g o => exact kept_memWrite8 s g o v

theorem kept_writePlace16 (s : State) (p : Place Reg16) (v : Word) : Kept s (s.writePlace16 p v) := by
  cases p with
  | reg r => exact kept_setX16 s r v
  | mem g o => exact kept_memWrite16 s g o v

theorem kept_jump (s : State) (w : Word) : Kept s (s.jump w) :=
  ⟨⟨rfl, rfl, rfl, rfl, rfl, rfl⟩, ⟨rfl, rfl, rfl⟩, rfl, rfl, .inr rfl, .inl ⟨rfl, rfl⟩, fun h _ => h⟩

theorem kept_push16 (s : State) (v : Word) : Kept s (s.push16 v) :=
  (kept_setX16 s .sp _).trans (kept_memWrite16 _ _ _ _)

theorem kept_override (s : State) (o : Option SegReg) : Kept s { s with segOverride := o } :=
  ⟨⟨rfl, rfl, rfl, rfl, rfl, rfl⟩, ⟨rfl, rfl, rfl⟩, rfl, rfl, .inl ⟨rfl, rfl⟩, .inl ⟨rfl, rfl⟩, fun h _ => h⟩

theorem kept_halt (s : State) : Kept s { s with status := .halted, haltReason := .hlt } :=
  ⟨⟨rfl, rfl, rfl, rfl, rfl, rfl⟩, ⟨rfl, rfl, rfl⟩, rfl, rfl, .inl ⟨rfl, rfl⟩, .inr ⟨rfl, rfl⟩, fun h _ => h⟩

/-- The state after a fault: the record, abandon, FAULTED, and nothing else (60_exceptions.md R502, R503). -/
theorem faultTaken_raise (s : State) (k : FaultKind) (opc : Byte) : FaultTaken s (s.raise k opc) k opc :=
  ⟨rfl, rfl, rfl, rfl, rfl, rfl, rfl, fun _ => rfl, fun _ => rfl, fun _ => rfl, rfl, rfl, rfl, rfl, rfl, rfl, rfl⟩

/-- Only three kinds of fault have a cause (60_exceptions.md R500). -/
theorem faultCause_kind {i : Instr} {s : State} {k : FaultKind} (h : FaultCause i s k) :
    k = .invalidOpcode ∨ k = .stackFault ∨ k = .divideFault := by
  cases i <;> first | exact h.elim | exact .inl h | exact .inr (.inl h.1) | exact .inr (.inr h.1)

/-- An instruction has cause for one kind of fault at the most (60_exceptions.md R505). -/
theorem faultCause_unique {i : Instr} {s : State} {j k : FaultKind} (hj : FaultCause i s j) (hk : FaultCause i s k) :
    j = k := by
  cases i <;> first | exact hj.elim | exact hj.trans hk.symm | exact hj.1.trans hk.1.symm

/-- Whether there is a cause depends on registers, segment registers, memory and the override alone. -/
theorem faultCause_congr {i : Instr} {s t : State} {k : FaultKind} (hr : t.regs = s.regs) (hs : t.segs = s.segs)
    (hm : t.mem = s.mem) (hc : t.memSize = s.memSize) (ho : t.segOverride = s.segOverride) (h : FaultCause i s k) :
    FaultCause i t k := by
  cases s; cases t
  subst hr hs hm hc ho
  cases i <;> exact h

/-- The shape of every result of `exec` on a well-formed instruction that faults on the causes `c`: the state after the
fault of a cause, or a state that keeps what `Kept` names, and then there is no cause. -/
def Shape (c : FaultKind → Prop) (s : State) (r : Result) : Prop :=
  ∃ t, r = .next t ∧ ((∃ k opc, c k ∧ t = s.raise k opc) ∨ Kept s t ∧ ∀ k, ¬c k)

/-- An instruction that never faults. -/
abbrev Completes (s : State) (r : Result) : Prop := Shape (fun _ => False) s r

theorem shape_kept {s t : State} (h : Kept s t) : Completes s (.next t) := ⟨t, rfl, .inr ⟨h, fun _ h => h⟩⟩

theorem shape_raise (s : State) (k : FaultKind) (opc : Byte) : Shape (· = k) s (.next (s.raise k opc)) :=
  ⟨_, rfl, .inl ⟨k, opc, rfl, rfl⟩⟩

/-- An instruction that raises `k` if `p` holds, and otherwise completes. -/
theorem shape_raiseIf {s : State} {p : Prop} [Decidable p] (k : FaultKind) (opc : Byte) {r : Result} (h : Completes s r) :
    Shape (fun j => j = k ∧ p) s (if p then .next (s.raise k opc) else r) := by
  by_cases hp : p
  · rw [if_pos hp]
    exact ⟨_, rfl, .inl ⟨k, opc, ⟨rfl, hp⟩, rfl⟩⟩
  · rw [if_neg hp]
    obtain ⟨t, ht, h | h⟩ := h
    · obtain ⟨_, _, hf, _⟩ := h
      exact hf.elim
    · exact ⟨t, ht, .inr ⟨h.1, fun _ hc => hp hc.2⟩⟩

theorem shape_aluWrite8 (f : Byte → Byte → AluOut 8) (p : OperandPair Reg8 8) (s : State) : Completes s (aluWrite8 f p s) :=
  shape_kept ((kept_writePlace8 s _ _).trans (kept_setFlags _ _))

theorem shape_aluWrite16 (f : Word → Word → AluOut 16) (p : OperandPair Reg16 16) (s : State) :
    Completes s (aluWrite16 f p s) :=
  shape_kept ((kept_writePlace16 s _ _).trans (kept_setFlags _ _))

theorem shape_aluFlags8 (f : Byte → Byte → AluOut 8) (p : OperandPair Reg8 8) (s : State) : Completes s (aluFlags8 f p s) :=
  shape_kept (kept_setFlags _ _)

theorem shape_aluFlags16 (f : Word → Word → AluOut 16) (p : OperandPair Reg16 16) (s : State) :
    Completes s (aluFlags16 f p s) :=
  shape_kept (kept_setFlags _ _)

theorem shape_inc8 (p : Place Reg8) (s : State) : Completes s (inc8 p s) :=
  shape_kept ((kept_writePlace8 s _ _).trans (kept_setFlags _ _))

theorem shape_inc16 (p : Place Reg16) (s : State) : Completes s (inc16 p s) :=
  shape_kept ((kept_writePlace16 s _ _).trans (kept_setFlags _ _))

theorem shape_dec8 (p : Place Reg8) (s : State) : Completes s (dec8 p s) :=
  shape_kept ((kept_writePlace8 s _ _).trans (kept_setFlags _ _))

theorem shape_dec16 (p : Place Reg16) (s : State) : Completes s (dec16 p s) :=
  shape_kept ((kept_writePlace16 s _ _).trans (kept_setFlags _ _))

theorem shape_mulWrite8 (p : Word) (b : Bool) (s : State) : Completes s (mulWrite8 p b s) :=
  shape_kept ((kept_setX16 s _ _).trans (kept_setFlags _ _))

theorem shape_mulWrite16 (p : BitVec 32) (b : Bool) (s : State) : Completes s (mulWrite16 p b s) :=
  shape_kept (((kept_setX16 s _ _).trans (kept_setX16 _ _ _)).trans (kept_setFlags _ _))

theorem shape_divWrite8 (q m : Byte) (s : State) : Completes s (divWrite8 q m s) :=
  shape_kept (((kept_setX8 s _ _).trans (kept_setX8 _ _ _)).trans (kept_setFlags _ _))

theorem shape_divWrite16 (q m : Word) (s : State) : Completes s (divWrite16 q m s) :=
  shape_kept (((kept_setX16 s _ _).trans (kept_setX16 _ _ _)).trans (kept_setFlags _ _))

theorem shape_xchg8 (rm : Rm8) (r : Reg8) (s : State) : Completes s (xchg8 rm r s) :=
  shape_kept ((kept_setX8 s _ _).trans (kept_writePlace8 _ _ _))

theorem shape_xchg16 (rm : Rm16) (r : Reg16) (s : State) : Completes s (xchg16 rm r s) :=
  shape_kept ((kept_setX16 s _ _).trans (kept_writePlace16 _ _ _))

theorem shape_xchgAx (r : Reg16) (s : State) : Completes s (xchgAx r s) :=
  shape_kept ((kept_setX16 s _ _).trans (kept_setX16 _ _ _))

/-- A push goes on with `k` from the pushed state, or raises StackFault where SP is below 2. -/
theorem shape_pushThen (opc : Byte) (v : Word) {k : State → State} (s : State) (hk : ∀ t, Kept t (k t)) :
    Shape (fun j => j = .stackFault ∧ (s.x16 .sp).toNat < 2) s (pushThen opc v k s) := by
  have := shape_raiseIf (p := (s.x16 .sp).toNat < 2) .stackFault opc (shape_kept ((kept_push16 s v).trans (hk _)))
  simpa only [pushThen, State.pushFits, decide_eq_true_eq, ← Nat.not_lt, ite_not] using this

/-- A pop goes on with `k` from the state whose SP has moved, or raises StackFault where SP would pass 0xFFFF. -/
theorem shape_popThen (opc : Byte) (extra : Word) {k : Word → State → State} (s : State) (hk : ∀ v t, Kept t (k v t)) :
    Shape (fun j => j = .stackFault ∧ 0xFFFF < (s.x16 .sp).toNat + 2 + extra.toNat) s (popThen opc extra k s) := by
  have := shape_raiseIf (p := 0xFFFF < (s.x16 .sp).toNat + 2 + extra.toNat) .stackFault opc
    (shape_kept ((kept_setX16 s .sp (s.x16 .sp + 2 + extra)).trans (hk s.stackTop _)))
  simpa only [popThen, State.popFits, decide_eq_true_eq, ← Nat.not_lt, ite_not, Nat.add_assoc] using this

theorem kept_jumpIf (c : Bool) (rel : Byte) (s : State) : Kept s (if c then s.jump (s.target8 rel) else s) := by
  split
  · exact kept_jump s _
  · exact Kept.refl s

theorem shape_jumpIf (c : Bool) (rel : Byte) (s : State) : Completes s (jumpIf c rel s) := shape_kept (kept_jumpIf c rel s)

theorem shape_loopIf (c : Bool) (rel : Byte) (s : State) : Completes s (loopIf c rel s) :=
  shape_kept ((kept_setX16 s _ _).trans (kept_jumpIf _ _ _))

/-- Every well-formed instruction takes a next state of this shape, with the causes of R500 (60_exceptions.md). -/
theorem exec_shape {i : Instr} (hi : i.wf = true) (s : State) : Shape (FaultCause i s) s (exec i s) := by
  cases i with
  | addRm8R8 rm r => exact (shape_aluWrite8 _ _ s : Shape _ s (execAddRm8R8 rm r s))
  | addRm16R16 rm r => exact (shape_aluWrite16 _ _ s : Shape _ s (execAddRm16R16 rm r s))
  | addR8Rm8 r rm => exact (shape_aluWrite8 _ _ s : Shape _ s (execAddR8Rm8 r rm s))
  | addR16Rm16 r rm => exact (shape_aluWrite16 _ _ s : Shape _ s (execAddR16Rm16 r rm s))
  | addAlImm8 imm => exact (shape_aluWrite8 _ _ s : Shape _ s (execAddAlImm8 imm s))
  | addAxImm16 imm => exact (shape_aluWrite16 _ _ s : Shape _ s (execAddAxImm16 imm s))
  | orRm8R8 rm r => exact (shape_aluWrite8 _ _ s : Shape _ s (execOrRm8R8 rm r s))
  | orRm16R16 rm r => exact (shape_aluWrite16 _ _ s : Shape _ s (execOrRm16R16 rm r s))
  | orR8Rm8 r rm => exact (shape_aluWrite8 _ _ s : Shape _ s (execOrR8Rm8 r rm s))
  | orR16Rm16 r rm => exact (shape_aluWrite16 _ _ s : Shape _ s (execOrR16Rm16 r rm s))
  | orAlImm8 imm => exact (shape_aluWrite8 _ _ s : Shape _ s (execOrAlImm8 imm s))
  | orAxImm16 imm => exact (shape_aluWrite16 _ _ s : Shape _ s (execOrAxImm16 imm s))
  | adcRm8R8 rm r => exact (shape_aluWrite8 _ _ s : Shape _ s (execAdcRm8R8 rm r s))
  | adcRm16R16 rm r => exact (shape_aluWrite16 _ _ s : Shape _ s (execAdcRm16R16 rm r s))
  | adcR8Rm8 r rm => exact (shape_aluWrite8 _ _ s : Shape _ s (execAdcR8Rm8 r rm s))
  | adcR16Rm16 r rm => exact (shape_aluWrite16 _ _ s : Shape _ s (execAdcR16Rm16 r rm s))
  | adcAlImm8 imm => exact (shape_aluWrite8 _ _ s : Shape _ s (execAdcAlImm8 imm s))
  | adcAxImm16 imm => exact (shape_aluWrite16 _ _ s : Shape _ s (execAdcAxImm16 imm s))
  | sbbRm8R8 rm r => exact (shape_aluWrite8 _ _ s : Shape _ s (execSbbRm8R8 rm r s))
  | sbbRm16R16 rm r => exact (shape_aluWrite16 _ _ s : Shape _ s (execSbbRm16R16 rm r s))
  | sbbR8Rm8 r rm => exact (shape_aluWrite8 _ _ s : Shape _ s (execSbbR8Rm8 r rm s))
  | sbbR16Rm16 r rm => exact (shape_aluWrite16 _ _ s : Shape _ s (execSbbR16Rm16 r rm s))
  | sbbAlImm8 imm => exact (shape_aluWrite8 _ _ s : Shape _ s (execSbbAlImm8 imm s))
  | sbbAxImm16 imm => exact (shape_aluWrite16 _ _ s : Shape _ s (execSbbAxImm16 imm s))
  | andRm8R8 rm r => exact (shape_aluWrite8 _ _ s : Shape _ s (execAndRm8R8 rm r s))
  | andRm16R16 rm r => exact (shape_aluWrite16 _ _ s : Shape _ s (execAndRm16R16 rm r s))
  | andR8Rm8 r rm => exact (shape_aluWrite8 _ _ s : Shape _ s (execAndR8Rm8 r rm s))
  | andR16Rm16 r rm => exact (shape_aluWrite16 _ _ s : Shape _ s (execAndR16Rm16 r rm s))
  | andAlImm8 imm => exact (shape_aluWrite8 _ _ s : Shape _ s (execAndAlImm8 imm s))
  | andAxImm16 imm => exact (shape_aluWrite16 _ _ s : Shape _ s (execAndAxImm16 imm s))
  | subRm8R8 rm r => exact (shape_aluWrite8 _ _ s : Shape _ s (execSubRm8R8 rm r s))
  | subRm16R16 rm r => exact (shape_aluWrite16 _ _ s : Shape _ s (execSubRm16R16 rm r s))
  | subR8Rm8 r rm => exact (shape_aluWrite8 _ _ s : Shape _ s (execSubR8Rm8 r rm s))
  | subR16Rm16 r rm => exact (shape_aluWrite16 _ _ s : Shape _ s (execSubR16Rm16 r rm s))
  | subAlImm8 imm => exact (shape_aluWrite8 _ _ s : Shape _ s (execSubAlImm8 imm s))
  | subAxImm16 imm => exact (shape_aluWrite16 _ _ s : Shape _ s (execSubAxImm16 imm s))
  | xorRm8R8 rm r => exact (shape_aluWrite8 _ _ s : Shape _ s (execXorRm8R8 rm r s))
  | xorRm16R16 rm r => exact (shape_aluWrite16 _ _ s : Shape _ s (execXorRm16R16 rm r s))
  | xorR8Rm8 r rm => exact (shape_aluWrite8 _ _ s : Shape _ s (execXorR8Rm8 r rm s))
  | xorR16Rm16 r rm => exact (shape_aluWrite16 _ _ s : Shape _ s (execXorR16Rm16 r rm s))
  | xorAlImm8 imm => exact (shape_aluWrite8 _ _ s : Shape _ s (execXorAlImm8 imm s))
  | xorAxImm16 imm => exact (shape_aluWrite16 _ _ s : Shape _ s (execXorAxImm16 imm s))
  | cmpRm8R8 rm r => exact (shape_aluFlags8 _ _ s : Shape _ s (execCmpRm8R8 rm r s))
  | cmpRm16R16 rm r => exact (shape_aluFlags16 _ _ s : Shape _ s (execCmpRm16R16 rm r s))
  | cmpR8Rm8 r rm => exact (shape_aluFlags8 _ _ s : Shape _ s (execCmpR8Rm8 r rm s))
  | cmpR16Rm16 r rm => exact (shape_aluFlags16 _ _ s : Shape _ s (execCmpR16Rm16 r rm s))
  | cmpAlImm8 imm => exact (shape_aluFlags8 _ _ s : Shape _ s (execCmpAlImm8 imm s))
  | cmpAxImm16 imm => exact (shape_aluFlags16 _ _ s : Shape _ s (execCmpAxImm16 imm s))
  | pushEs => exact (shape_pushThen _ _ s fun t => Kept.refl t : Shape _ s (execPushEs s))
  | popEs => exact (shape_popThen _ _ s fun v t => kept_setSreg t v (by decide) : Shape _ s (execPopEs s))
  | pushCs => exact (shape_pushThen _ _ s fun t => Kept.refl t : Shape _ s (execPushCs s))
  | pushSs => exact (shape_pushThen _ _ s fun t => Kept.refl t : Shape _ s (execPushSs s))
  | popSs => exact (shape_popThen _ _ s fun v t => kept_setSreg t v (by decide) : Shape _ s (execPopSs s))
  | pushDs => exact (shape_pushThen _ _ s fun t => Kept.refl t : Shape _ s (execPushDs s))
  | popDs => exact (shape_popThen _ _ s fun v t => kept_setSreg t v (by decide) : Shape _ s (execPopDs s))
  | prefixEs => exact (shape_kept (kept_override s _) : Shape _ s (execPrefixEs s))
  | prefixCs => exact (shape_kept (kept_override s _) : Shape _ s (execPrefixCs s))
  | prefixSs => exact (shape_kept (kept_override s _) : Shape _ s (execPrefixSs s))
  | prefixDs => exact (shape_kept (kept_override s _) : Shape _ s (execPrefixDs s))
  | incAx => exact (shape_inc16 _ s : Shape _ s (execIncAx s))
  | incCx => exact (shape_inc16 _ s : Shape _ s (execIncCx s))
  | incDx => exact (shape_inc16 _ s : Shape _ s (execIncDx s))
  | incBx => exact (shape_inc16 _ s : Shape _ s (execIncBx s))
  | incSp => exact (shape_inc16 _ s : Shape _ s (execIncSp s))
  | incBp => exact (shape_inc16 _ s : Shape _ s (execIncBp s))
  | incSi => exact (shape_inc16 _ s : Shape _ s (execIncSi s))
  | incDi => exact (shape_inc16 _ s : Shape _ s (execIncDi s))
  | decAx => exact (shape_dec16 _ s : Shape _ s (execDecAx s))
  | decCx => exact (shape_dec16 _ s : Shape _ s (execDecCx s))
  | decDx => exact (shape_dec16 _ s : Shape _ s (execDecDx s))
  | decBx => exact (shape_dec16 _ s : Shape _ s (execDecBx s))
  | decSp => exact (shape_dec16 _ s : Shape _ s (execDecSp s))
  | decBp => exact (shape_dec16 _ s : Shape _ s (execDecBp s))
  | decSi => exact (shape_dec16 _ s : Shape _ s (execDecSi s))
  | decDi => exact (shape_dec16 _ s : Shape _ s (execDecDi s))
  | pushAx => exact (shape_pushThen _ _ s fun t => Kept.refl t : Shape _ s (execPushAx s))
  | pushCx => exact (shape_pushThen _ _ s fun t => Kept.refl t : Shape _ s (execPushCx s))
  | pushDx => exact (shape_pushThen _ _ s fun t => Kept.refl t : Shape _ s (execPushDx s))
  | pushBx => exact (shape_pushThen _ _ s fun t => Kept.refl t : Shape _ s (execPushBx s))
  | pushSp => exact (shape_pushThen _ _ s fun t => Kept.refl t : Shape _ s (execPushSp s))
  | pushBp => exact (shape_pushThen _ _ s fun t => Kept.refl t : Shape _ s (execPushBp s))
  | pushSi => exact (shape_pushThen _ _ s fun t => Kept.refl t : Shape _ s (execPushSi s))
  | pushDi => exact (shape_pushThen _ _ s fun t => Kept.refl t : Shape _ s (execPushDi s))
  | popAx => exact (shape_popThen _ _ s fun v t => kept_setX16 t _ v : Shape _ s (execPopAx s))
  | popCx => exact (shape_popThen _ _ s fun v t => kept_setX16 t _ v : Shape _ s (execPopCx s))
  | popDx => exact (shape_popThen _ _ s fun v t => kept_setX16 t _ v : Shape _ s (execPopDx s))
  | popBx => exact (shape_popThen _ _ s fun v t => kept_setX16 t _ v : Shape _ s (execPopBx s))
  | popSp => exact (shape_popThen _ _ s fun v t => kept_setX16 t _ v : Shape _ s (execPopSp s))
  | popBp => exact (shape_popThen _ _ s fun v t => kept_setX16 t _ v : Shape _ s (execPopBp s))
  | popSi => exact (shape_popThen _ _ s fun v t => kept_setX16 t _ v : Shape _ s (execPopSi s))
  | popDi => exact (shape_popThen _ _ s fun v t => kept_setX16 t _ v : Shape _ s (execPopDi s))
  | joRel8 rel => exact (shape_jumpIf _ _ s : Shape _ s (execJoRel8 rel s))
  | jnoRel8 rel => exact (shape_jumpIf _ _ s : Shape _ s (execJnoRel8 rel s))
  | jbRel8 rel => exact (shape_jumpIf _ _ s : Shape _ s (execJbRel8 rel s))
  | jaeRel8 rel => exact (shape_jumpIf _ _ s : Shape _ s (execJaeRel8 rel s))
  | jeRel8 rel => exact (shape_jumpIf _ _ s : Shape _ s (execJeRel8 rel s))
  | jneRel8 rel => exact (shape_jumpIf _ _ s : Shape _ s (execJneRel8 rel s))
  | jbeRel8 rel => exact (shape_jumpIf _ _ s : Shape _ s (execJbeRel8 rel s))
  | jaRel8 rel => exact (shape_jumpIf _ _ s : Shape _ s (execJaRel8 rel s))
  | jsRel8 rel => exact (shape_jumpIf _ _ s : Shape _ s (execJsRel8 rel s))
  | jnsRel8 rel => exact (shape_jumpIf _ _ s : Shape _ s (execJnsRel8 rel s))
  | jpRel8 rel => exact (shape_jumpIf _ _ s : Shape _ s (execJpRel8 rel s))
  | jnpRel8 rel => exact (shape_jumpIf _ _ s : Shape _ s (execJnpRel8 rel s))
  | jlRel8 rel => exact (shape_jumpIf _ _ s : Shape _ s (execJlRel8 rel s))
  | jgeRel8 rel => exact (shape_jumpIf _ _ s : Shape _ s (execJgeRel8 rel s))
  | jleRel8 rel => exact (shape_jumpIf _ _ s : Shape _ s (execJleRel8 rel s))
  | jgRel8 rel => exact (shape_jumpIf _ _ s : Shape _ s (execJgRel8 rel s))
  | addRm8Imm8 rm imm => exact (shape_aluWrite8 _ _ s : Shape _ s (execAddRm8Imm8 rm imm s))
  | orRm8Imm8 rm imm => exact (shape_aluWrite8 _ _ s : Shape _ s (execOrRm8Imm8 rm imm s))
  | adcRm8Imm8 rm imm => exact (shape_aluWrite8 _ _ s : Shape _ s (execAdcRm8Imm8 rm imm s))
  | sbbRm8Imm8 rm imm => exact (shape_aluWrite8 _ _ s : Shape _ s (execSbbRm8Imm8 rm imm s))
  | andRm8Imm8 rm imm => exact (shape_aluWrite8 _ _ s : Shape _ s (execAndRm8Imm8 rm imm s))
  | subRm8Imm8 rm imm => exact (shape_aluWrite8 _ _ s : Shape _ s (execSubRm8Imm8 rm imm s))
  | xorRm8Imm8 rm imm => exact (shape_aluWrite8 _ _ s : Shape _ s (execXorRm8Imm8 rm imm s))
  | cmpRm8Imm8 rm imm => exact (shape_aluFlags8 _ _ s : Shape _ s (execCmpRm8Imm8 rm imm s))
  | addRm16Imm16 rm imm => exact (shape_aluWrite16 _ _ s : Shape _ s (execAddRm16Imm16 rm imm s))
  | orRm16Imm16 rm imm => exact (shape_aluWrite16 _ _ s : Shape _ s (execOrRm16Imm16 rm imm s))
  | adcRm16Imm16 rm imm => exact (shape_aluWrite16 _ _ s : Shape _ s (execAdcRm16Imm16 rm imm s))
  | sbbRm16Imm16 rm imm => exact (shape_aluWrite16 _ _ s : Shape _ s (execSbbRm16Imm16 rm imm s))
  | andRm16Imm16 rm imm => exact (shape_aluWrite16 _ _ s : Shape _ s (execAndRm16Imm16 rm imm s))
  | subRm16Imm16 rm imm => exact (shape_aluWrite16 _ _ s : Shape _ s (execSubRm16Imm16 rm imm s))
  | xorRm16Imm16 rm imm => exact (shape_aluWrite16 _ _ s : Shape _ s (execXorRm16Imm16 rm imm s))
  | cmpRm16Imm16 rm imm => exact (shape_aluFlags16 _ _ s : Shape _ s (execCmpRm16Imm16 rm imm s))
  | addRm16Imm8 rm imm => exact (shape_aluWrite16 _ _ s : Shape _ s (execAddRm16Imm8 rm imm s))
  | orRm16Imm8 rm imm => exact (shape_aluWrite16 _ _ s : Shape _ s (execOrRm16Imm8 rm imm s))
  | adcRm16Imm8 rm imm => exact (shape_aluWrite16 _ _ s : Shape _ s (execAdcRm16Imm8 rm imm s))
  | sbbRm16Imm8 rm imm => exact (shape_aluWrite16 _ _ s : Shape _ s (execSbbRm16Imm8 rm imm s))
  | andRm16Imm8 rm imm => exact (shape_aluWrite16 _ _ s : Shape _ s (execAndRm16Imm8 rm imm s))
  | subRm16Imm8 rm imm => exact (shape_aluWrite16 _ _ s : Shape _ s (execSubRm16Imm8 rm imm s))
  | xorRm16Imm8 rm imm => exact (shape_aluWrite16 _ _ s : Shape _ s (execXorRm16Imm8 rm imm s))
  | cmpRm16Imm8 rm imm => exact (shape_aluFlags16 _ _ s : Shape _ s (execCmpRm16Imm8 rm imm s))
  | testRm8R8 rm r => exact (shape_aluFlags8 _ _ s : Shape _ s (execTestRm8R8 rm r s))
  | testRm16R16 rm r => exact (shape_aluFlags16 _ _ s : Shape _ s (execTestRm16R16 rm r s))
  | xchgRm8R8 rm r => exact (shape_xchg8 _ _ s : Shape _ s (execXchgRm8R8 rm r s))
  | xchgRm16R16 rm r => exact (shape_xchg16 _ _ s : Shape _ s (execXchgRm16R16 rm r s))
  | movRm8R8 rm r => exact (shape_kept (kept_writePlace8 s _ _) : Shape _ s (execMovRm8R8 rm r s))
  | movRm16R16 rm r => exact (shape_kept (kept_writePlace16 s _ _) : Shape _ s (execMovRm16R16 rm r s))
  | movR8Rm8 r rm => exact (shape_kept (kept_setX8 s _ _) : Shape _ s (execMovR8Rm8 r rm s))
  | movR16Rm16 r rm => exact (shape_kept (kept_setX16 s _ _) : Shape _ s (execMovR16Rm16 r rm s))
  | movRm16Sreg rm sr => exact (shape_kept (kept_writePlace16 s _ _) : Shape _ s (execMovRm16Sreg rm sr s))
  | leaR16M r m => exact (shape_kept (kept_setX16 s _ _) : Shape _ s (execLeaR16M r m s))
  | movEsRm16 rm => exact (shape_kept (kept_setSreg s _ (by decide)) : Shape _ s (execMovEsRm16 rm s))
  | movSsDsRm16 sr rm =>
    have h : sr ≠ .cs := by rintro rfl; simp [Instr.wf] at hi
    exact (shape_kept (kept_setSreg s _ h) : Shape _ s (execMovSsDsRm16 sr rm s))
  | popRm16 rm => exact (shape_popThen _ _ s fun v t => kept_writePlace16 t _ v : Shape _ s (execPopRm16 rm s))
  | nop => exact (shape_kept (Kept.refl s) : Shape _ s (execNop s))
  | xchgAxCx => exact (shape_xchgAx _ s : Shape _ s (execXchgAxCx s))
  | xchgAxDx => exact (shape_xchgAx _ s : Shape _ s (execXchgAxDx s))
  | xchgAxBx => exact (shape_xchgAx _ s : Shape _ s (execXchgAxBx s))
  | xchgAxSp => exact (shape_xchgAx _ s : Shape _ s (execXchgAxSp s))
  | xchgAxBp => exact (shape_xchgAx _ s : Shape _ s (execXchgAxBp s))
  | xchgAxSi => exact (shape_xchgAx _ s : Shape _ s (execXchgAxSi s))
  | xchgAxDi => exact (shape_xchgAx _ s : Shape _ s (execXchgAxDi s))
  | cbw => exact (shape_kept (kept_setX16 s _ _) : Shape _ s (execCbw s))
  | cwd => exact (shape_kept (kept_setX16 s _ _) : Shape _ s (execCwd s))
  | pushf => exact (shape_pushThen _ _ s fun t => Kept.refl t : Shape _ s (execPushf s))
  | popf => exact (shape_popThen _ _ s fun v t => kept_setFlags t _ : Shape _ s (execPopf s))
  | sahf => exact (shape_kept (kept_setFlags s _) : Shape _ s (execSahf s))
  | lahf => exact (shape_kept (kept_setX8 s _ _) : Shape _ s (execLahf s))
  | movAlMoffs8 off => exact (shape_kept (kept_setX8 s _ _) : Shape _ s (execMovAlMoffs8 off s))
  | movAxMoffs16 off => exact (shape_kept (kept_setX16 s _ _) : Shape _ s (execMovAxMoffs16 off s))
  | movMoffs8Al off => exact (shape_kept (kept_memWrite8 s _ _ _) : Shape _ s (execMovMoffs8Al off s))
  | movMoffs16Ax off => exact (shape_kept (kept_memWrite16 s _ _ _) : Shape _ s (execMovMoffs16Ax off s))
  | testAlImm8 imm => exact (shape_aluFlags8 _ _ s : Shape _ s (execTestAlImm8 imm s))
  | testAxImm16 imm => exact (shape_aluFlags16 _ _ s : Shape _ s (execTestAxImm16 imm s))
  | movAlImm8 imm => exact (shape_kept (kept_setX8 s _ _) : Shape _ s (execMovAlImm8 imm s))
  | movClImm8 imm => exact (shape_kept (kept_setX8 s _ _) : Shape _ s (execMovClImm8 imm s))
  | movDlImm8 imm => exact (shape_kept (kept_setX8 s _ _) : Shape _ s (execMovDlImm8 imm s))
  | movBlImm8 imm => exact (shape_kept (kept_setX8 s _ _) : Shape _ s (execMovBlImm8 imm s))
  | movAhImm8 imm => exact (shape_kept (kept_setX8 s _ _) : Shape _ s (execMovAhImm8 imm s))
  | movChImm8 imm => exact (shape_kept (kept_setX8 s _ _) : Shape _ s (execMovChImm8 imm s))
  | movDhImm8 imm => exact (shape_kept (kept_setX8 s _ _) : Shape _ s (execMovDhImm8 imm s))
  | movBhImm8 imm => exact (shape_kept (kept_setX8 s _ _) : Shape _ s (execMovBhImm8 imm s))
  | movAxImm16 imm => exact (shape_kept (kept_setX16 s _ _) : Shape _ s (execMovAxImm16 imm s))
  | movCxImm16 imm => exact (shape_kept (kept_setX16 s _ _) : Shape _ s (execMovCxImm16 imm s))
  | movDxImm16 imm => exact (shape_kept (kept_setX16 s _ _) : Shape _ s (execMovDxImm16 imm s))
  | movBxImm16 imm => exact (shape_kept (kept_setX16 s _ _) : Shape _ s (execMovBxImm16 imm s))
  | movSpImm16 imm => exact (shape_kept (kept_setX16 s _ _) : Shape _ s (execMovSpImm16 imm s))
  | movBpImm16 imm => exact (shape_kept (kept_setX16 s _ _) : Shape _ s (execMovBpImm16 imm s))
  | movSiImm16 imm => exact (shape_kept (kept_setX16 s _ _) : Shape _ s (execMovSiImm16 imm s))
  | movDiImm16 imm => exact (shape_kept (kept_setX16 s _ _) : Shape _ s (execMovDiImm16 imm s))
  | retImm16 imm => exact (shape_popThen _ _ s fun v t => kept_jump t v : Shape _ s (execRetImm16 imm s))
  | ret => exact (shape_popThen _ _ s fun v t => kept_jump t v : Shape _ s (execRet s))
  | movRm8Imm8 rm imm => exact (shape_kept (kept_writePlace8 s _ _) : Shape _ s (execMovRm8Imm8 rm imm s))
  | movRm16Imm16 rm imm => exact (shape_kept (kept_writePlace16 s _ _) : Shape _ s (execMovRm16Imm16 rm imm s))
  | loopneRel8 rel => exact (shape_loopIf _ _ s : Shape _ s (execLoopneRel8 rel s))
  | loopeRel8 rel => exact (shape_loopIf _ _ s : Shape _ s (execLoopeRel8 rel s))
  | loopRel8 rel => exact (shape_loopIf _ _ s : Shape _ s (execLoopRel8 rel s))
  | jcxzRel8 rel => exact (shape_jumpIf _ _ s : Shape _ s (execJcxzRel8 rel s))
  | callRel16 rel => exact (shape_pushThen _ _ s fun t => kept_jump t _ : Shape _ s (execCallRel16 rel s))
  | jmpRel16 rel => exact (shape_kept (kept_jump s _) : Shape _ s (execJmpRel16 rel s))
  | jmpRel8 rel => exact (shape_kept (kept_jump s _) : Shape _ s (execJmpRel8 rel s))
  | hlt => exact (shape_kept (kept_halt s) : Shape _ s (execHlt s))
  | cmc => exact (shape_kept (kept_setFlags s _) : Shape _ s (execCmc s))
  | clc => exact (shape_kept (kept_setFlags s _) : Shape _ s (execClc s))
  | stc => exact (shape_kept (kept_setFlags s _) : Shape _ s (execStc s))
  | cli => exact (shape_kept (kept_setFlags s _) : Shape _ s (execCli s))
  | sti => exact (shape_kept (kept_setFlags s _) : Shape _ s (execSti s))
  | cld => exact (shape_kept (kept_setFlags s _) : Shape _ s (execCld s))
  | std => exact (shape_kept (kept_setFlags s _) : Shape _ s (execStd s))
  | testRm8Imm8 rm imm => exact (shape_aluFlags8 _ _ s : Shape _ s (execTestRm8Imm8 rm imm s))
  | testRm16Imm16 rm imm => exact (shape_aluFlags16 _ _ s : Shape _ s (execTestRm16Imm16 rm imm s))
  | notRm8 rm => exact (shape_kept (kept_writePlace8 s _ _) : Shape _ s (execNotRm8 rm s))
  | notRm16 rm => exact (shape_kept (kept_writePlace16 s _ _) : Shape _ s (execNotRm16 rm s))
  | negRm8 rm => exact (shape_aluWrite8 _ _ s : Shape _ s (execNegRm8 rm s))
  | negRm16 rm => exact (shape_aluWrite16 _ _ s : Shape _ s (execNegRm16 rm s))
  | mulRm8 rm => exact (shape_mulWrite8 _ _ s : Shape _ s (execMulRm8 rm s))
  | mulRm16 rm => exact (shape_mulWrite16 _ _ s : Shape _ s (execMulRm16 rm s))
  | imulRm8 rm => exact (shape_mulWrite8 _ _ s : Shape _ s (execImulRm8 rm s))
  | imulRm16 rm => exact (shape_mulWrite16 _ _ s : Shape _ s (execImulRm16 rm s))
  | divRm8 rm =>
    exact (shape_raiseIf _ _ (shape_divWrite8 _ _ s) : Shape _ s (execDivRm8 rm s))
  | divRm16 rm =>
    exact (shape_raiseIf _ _ (shape_divWrite16 _ _ s) : Shape _ s (execDivRm16 rm s))
  | idivRm8 rm =>
    exact (shape_raiseIf _ _ (shape_divWrite8 _ _ s) : Shape _ s (execIdivRm8 rm s))
  | idivRm16 rm =>
    exact (shape_raiseIf _ _ (shape_divWrite16 _ _ s) : Shape _ s (execIdivRm16 rm s))
  | incRm8 rm => exact (shape_inc8 _ s : Shape _ s (execIncRm8 rm s))
  | decRm8 rm => exact (shape_dec8 _ s : Shape _ s (execDecRm8 rm s))
  | incRm16 rm => exact (shape_inc16 _ s : Shape _ s (execIncRm16 rm s))
  | decRm16 rm => exact (shape_dec16 _ s : Shape _ s (execDecRm16 rm s))
  | callRm16 rm => exact (shape_pushThen _ _ s fun t => kept_jump t _ : Shape _ s (execCallRm16 rm s))
  | jmpRm16 rm => exact (shape_kept (kept_jump s _) : Shape _ s (execJmpRm16 rm s))
  | pushRm16 rm => exact (shape_pushThen _ _ s fun t => Kept.refl t : Shape _ s (execPushRm16 rm s))
  | invalid opc modrm => exact (shape_raise s _ _ : Shape _ s (execInvalid opc modrm s))

end Sys2Proof.Machine
end

