-- ==== Sys2Proof/Laws/Effects.lean ====
section
/-! SUPPORT. For each shared operation that an instruction is made of, one lemma that says everything the instruction then
does, in the terms of Safety.lean. -/

namespace Sys2Proof.Machine

/-! ## What stays the same -/

theorem SameConfig.refl (s : State) : SameConfig s s := ⟨rfl, rfl, rfl, rfl, rfl, rfl⟩

theorem SameControl.refl (s : State) : SameControl s s := ⟨SameConfig.refl s, ⟨rfl, rfl, rfl⟩, rfl, rfl, rfl, rfl⟩

theorem SameBeyondAlu.refl (s : State) : SameBeyondAlu s s := ⟨fun _ => rfl, ⟨rfl, rfl⟩, SameControl.refl s⟩

/-- A write to an operand changes no flag and nothing beyond registers and memory. -/
theorem writePlace8_frame (s : State) (p : Place Reg8) (v : Byte) :
    (s.writePlace8 p v).flags = s.flags ∧ SameBeyondAlu s (s.writePlace8 p v) := by
  cases p <;> exact ⟨rfl, SameBeyondAlu.refl s⟩

theorem writePlace16_frame (s : State) (p : Place Reg16) (v : Word) :
    (s.writePlace16 p v).flags = s.flags ∧ SameBeyondAlu s (s.writePlace16 p v) := by
  cases p <;> exact ⟨rfl, SameBeyondAlu.refl s⟩

/-- Writing the flags changes neither registers nor memory. -/
theorem stored8_setFlags {s t : State} {p : Place Reg8} {v : Byte} (f : Flags) (h : Stored8 s t p v) :
    Stored8 s (t.setFlags f) p v := by cases p <;> exact h

theorem stored16_setFlags {s t : State} {p : Place Reg16} {v : Word} (f : Flags) (h : Stored16 s t p v) :
    Stored16 s (t.setFlags f) p v := by cases p <;> exact h

/-! ## Instructions that write an operand -/

theorem moves8_writePlace8 {i : Instr} {s : State} (p : Place Reg8) (v : Byte)
    (h : exec i s = .next (s.writePlace8 p v)) : Moves8 i s p v :=
  ⟨_, h, stored8_writePlace8 s p v, writePlace8_frame s p v⟩

theorem moves16_writePlace16 {i : Instr} {s : State} (p : Place Reg16) (v : Word)
    (h : exec i s = .next (s.writePlace16 p v)) : Moves16 i s p v :=
  ⟨_, h, stored16_writePlace16 s p v, writePlace16_frame s p v⟩

theorem computes8_aluWrite8 {i : Instr} {s : State} (f : Byte → Byte → AluOut 8) (p : OperandPair Reg8 8) {v : Byte}
    {a : AluFlags} (h : exec i s = aluWrite8 f p s) (hv : (f p.a p.b).result = v) (ha : (f p.a p.b).flags = a) :
    Computes8 i s p.dest v a := by
  subst hv; subst ha
  exact ⟨_, h, stored8_setFlags _ (stored8_writePlace8 s _ _), rfl, (writePlace8_frame s _ _).2⟩

theorem computes16_aluWrite16 {i : Instr} {s : State} (f : Word → Word → AluOut 16) (p : OperandPair Reg16 16) {v : Word}
    {a : AluFlags} (h : exec i s = aluWrite16 f p s) (hv : (f p.a p.b).result = v) (ha : (f p.a p.b).flags = a) :
    Computes16 i s p.dest v a := by
  subst hv; subst ha
  exact ⟨_, h, stored16_setFlags _ (stored16_writePlace16 s _ _), rfl, (writePlace16_frame s _ _).2⟩

theorem compares_aluFlags8 {i : Instr} {s : State} (f : Byte → Byte → AluOut 8) (p : OperandPair Reg8 8) {a : AluFlags}
    (h : exec i s = aluFlags8 f p s) (ha : (f p.a p.b).flags = a) : Compares i s a := by
  subst ha
  exact ⟨_, h, fun _ => rfl, fun _ => rfl, rfl, SameBeyondAlu.refl s⟩

theorem compares_aluFlags16 {i : Instr} {s : State} (f : Word → Word → AluOut 16) (p : OperandPair Reg16 16) {a : AluFlags}
    (h : exec i s = aluFlags16 f p s) (ha : (f p.a p.b).flags = a) : Compares i s a := by
  subst ha
  exact ⟨_, h, fun _ => rfl, fun _ => rfl, rfl, SameBeyondAlu.refl s⟩

/-! ## Stack and control transfer -/

/-- What a push does after its check (45_stack.md R381). -/
theorem push16_written (s : State) (v : Word) :
    Reg16Written s (s.push16 v) .sp (s.x16 .sp - 2) ∧ Word16Written s (s.push16 v) (s.sreg .ss) (s.x16 .sp - 2) v :=
  ⟨reg16Written_setX16 s .sp (s.x16 .sp - 2),
    word16Written_memWrite16 (s.setX16 .sp (s.x16 .sp - 2)) (s.sreg .ss) (s.x16 .sp - 2) v⟩

theorem pushThen_next {opc : Byte} {v : Word} {k : State → State} {s : State} (h : 2 ≤ (s.x16 .sp).toNat) :
    pushThen opc v k s = .next (k (s.push16 v)) := by simp [pushThen, State.pushFits, h]

theorem pushThen_raise {opc : Byte} {v : Word} {k : State → State} {s : State} (h : (s.x16 .sp).toNat < 2) :
    pushThen opc v k s = .next (s.raise .stackFault opc) := by simp [pushThen, State.pushFits, Nat.not_le.mpr h]

theorem popThen_next {opc : Byte} {extra : Word} {k : Word → State → State} {s : State}
    (h : (s.x16 .sp).toNat + (2 + extra.toNat) ≤ 0xFFFF) :
    popThen opc extra k s = .next (k s.stackTop (s.setX16 .sp (s.x16 .sp + 2 + extra))) := by
  simp [popThen, State.popFits, h]

theorem popThen_raise {opc : Byte} {extra : Word} {k : Word → State → State} {s : State}
    (h : 0xFFFF < (s.x16 .sp).toNat + (2 + extra.toNat)) :
    popThen opc extra k s = .next (s.raise .stackFault opc) := by
  simp [popThen, State.popFits, Nat.not_le.mpr h]

/-- What `jump` does (40_step_and_queue.md R215). -/
theorem jumpsTo_jump {i : Instr} {s : State} (w : Word) (h : exec i s = .next (s.jump w)) : JumpsTo i s w :=
  ⟨_, h, rfl, rfl, fun _ => rfl, fun _ => rfl, rfl, fun _ => rfl, SameControl.refl s⟩

end Sys2Proof.Machine
end

