-- ==== Sys2Proof/Laws/PerInstr.lean ====
section
/-! SUPPORT. One lemma per constructor of `Instr`, by family. EncodedLength: the encoding of an instruction without its
prefix has 1 to 6 bytes (30_encoding.md R120: with a prefix, 7 at the most). -/

namespace Sys2Proof.Laws.EncodedLength

/-- The number of bytes of an encoding. -/
def Statement (i : Instr) : Prop := 1 ≤ (encode i).length ∧ (encode i).length ≤ 6

theorem wordBytes_length (w : Word) : (wordBytes w).length = 2 := rfl

theorem memRef_length (m : MemRef) (n : BitVec 3) : 1 ≤ (m.bytes n).length ∧ (m.bytes n).length ≤ 3 := by
  cases m <;> simp [MemRef.bytes, wordBytes]

theorem rm8_length (rm : Rm8) (n : BitVec 3) : 1 ≤ (rm.bytes8 n).length ∧ (rm.bytes8 n).length ≤ 3 := by
  cases rm with
  | reg r => simp [Rm.bytes8]
  | mem m => exact memRef_length m n

theorem rm16_length (rm : Rm16) (n : BitVec 3) : 1 ≤ (rm.bytes16 n).length ∧ (rm.bytes16 n).length ≤ 3 := by
  cases rm with
  | reg r => simp [Rm.bytes16]
  | mem m => exact memRef_length m n

/-- An opcode byte, an r/m operand of 1 to 3 bytes, and at most 2 more bytes. -/
theorem modrm_length (opc : Byte) {bs : List Byte} (tail : List Byte) (h : 1 ≤ bs.length ∧ bs.length ≤ 3)
    (ht : tail.length ≤ 2) : 1 ≤ (opc :: (bs ++ tail)).length ∧ (opc :: (bs ++ tail)).length ≤ 6 := by
  simp only [List.length_cons, List.length_append]; omega

theorem plain_length (opc : Byte) {bs : List Byte} (h : 1 ≤ bs.length ∧ bs.length ≤ 3) :
    1 ≤ (opc :: bs).length ∧ (opc :: bs).length ≤ 6 := by
  simp only [List.length_cons]; omega

/-- At most five bytes after the opcode byte. -/
theorem short_length (opc : Byte) (bs : List Byte) (h : bs.length ≤ 5) :
    1 ≤ (opc :: bs).length ∧ (opc :: bs).length ≤ 6 := by
  simp only [List.length_cons]; omega

theorem addRm8R8 (rm : Rm8) (r : Reg8) : Statement (.addRm8R8 rm r) := plain_length _ (rm8_length _ _)
theorem addRm16R16 (rm : Rm16) (r : Reg16) : Statement (.addRm16R16 rm r) := plain_length _ (rm16_length _ _)
theorem addR8Rm8 (r : Reg8) (rm : Rm8) : Statement (.addR8Rm8 r rm) := plain_length _ (rm8_length _ _)
theorem addR16Rm16 (r : Reg16) (rm : Rm16) : Statement (.addR16Rm16 r rm) := plain_length _ (rm16_length _ _)
theorem addAlImm8 (imm : Byte) : Statement (.addAlImm8 imm) := short_length _ _ (by simp)
theorem addAxImm16 (imm : Word) : Statement (.addAxImm16 imm) := short_length _ _ (by simp [wordBytes])
theorem orRm8R8 (rm : Rm8) (r : Reg8) : Statement (.orRm8R8 rm r) := plain_length _ (rm8_length _ _)
theorem orRm16R16 (rm : Rm16) (r : Reg16) : Statement (.orRm16R16 rm r) := plain_length _ (rm16_length _ _)
theorem orR8Rm8 (r : Reg8) (rm : Rm8) : Statement (.orR8Rm8 r rm) := plain_length _ (rm8_length _ _)
theorem orR16Rm16 (r : Reg16) (rm : Rm16) : Statement (.orR16Rm16 r rm) := plain_length _ (rm16_length _ _)
theorem orAlImm8 (imm : Byte) : Statement (.orAlImm8 imm) := short_length _ _ (by simp)
theorem orAxImm16 (imm : Word) : Statement (.orAxImm16 imm) := short_length _ _ (by simp [wordBytes])
theorem adcRm8R8 (rm : Rm8) (r : Reg8) : Statement (.adcRm8R8 rm r) := plain_length _ (rm8_length _ _)
theorem adcRm16R16 (rm : Rm16) (r : Reg16) : Statement (.adcRm16R16 rm r) := plain_length _ (rm16_length _ _)
theorem adcR8Rm8 (r : Reg8) (rm : Rm8) : Statement (.adcR8Rm8 r rm) := plain_length _ (rm8_length _ _)
theorem adcR16Rm16 (r : Reg16) (rm : Rm16) : Statement (.adcR16Rm16 r rm) := plain_length _ (rm16_length _ _)
theorem adcAlImm8 (imm : Byte) : Statement (.adcAlImm8 imm) := short_length _ _ (by simp)
theorem adcAxImm16 (imm : Word) : Statement (.adcAxImm16 imm) := short_length _ _ (by simp [wordBytes])
theorem sbbRm8R8 (rm : Rm8) (r : Reg8) : Statement (.sbbRm8R8 rm r) := plain_length _ (rm8_length _ _)
theorem sbbRm16R16 (rm : Rm16) (r : Reg16) : Statement (.sbbRm16R16 rm r) := plain_length _ (rm16_length _ _)
theorem sbbR8Rm8 (r : Reg8) (rm : Rm8) : Statement (.sbbR8Rm8 r rm) := plain_length _ (rm8_length _ _)
theorem sbbR16Rm16 (r : Reg16) (rm : Rm16) : Statement (.sbbR16Rm16 r rm) := plain_length _ (rm16_length _ _)
theorem sbbAlImm8 (imm : Byte) : Statement (.sbbAlImm8 imm) := short_length _ _ (by simp)
theorem sbbAxImm16 (imm : Word) : Statement (.sbbAxImm16 imm) := short_length _ _ (by simp [wordBytes])
theorem andRm8R8 (rm : Rm8) (r : Reg8) : Statement (.andRm8R8 rm r) := plain_length _ (rm8_length _ _)
theorem andRm16R16 (rm : Rm16) (r : Reg16) : Statement (.andRm16R16 rm r) := plain_length _ (rm16_length _ _)
theorem andR8Rm8 (r : Reg8) (rm : Rm8) : Statement (.andR8Rm8 r rm) := plain_length _ (rm8_length _ _)
theorem andR16Rm16 (r : Reg16) (rm : Rm16) : Statement (.andR16Rm16 r rm) := plain_length _ (rm16_length _ _)
theorem andAlImm8 (imm : Byte) : Statement (.andAlImm8 imm) := short_length _ _ (by simp)
theorem andAxImm16 (imm : Word) : Statement (.andAxImm16 imm) := short_length _ _ (by simp [wordBytes])
theorem subRm8R8 (rm : Rm8) (r : Reg8) : Statement (.subRm8R8 rm r) := plain_length _ (rm8_length _ _)
theorem subRm16R16 (rm : Rm16) (r : Reg16) : Statement (.subRm16R16 rm r) := plain_length _ (rm16_length _ _)
theorem subR8Rm8 (r : Reg8) (rm : Rm8) : Statement (.subR8Rm8 r rm) := plain_length _ (rm8_length _ _)
theorem subR16Rm16 (r : Reg16) (rm : Rm16) : Statement (.subR16Rm16 r rm) := plain_length _ (rm16_length _ _)
theorem subAlImm8 (imm : Byte) : Statement (.subAlImm8 imm) := short_length _ _ (by simp)
theorem subAxImm16 (imm : Word) : Statement (.subAxImm16 imm) := short_length _ _ (by simp [wordBytes])
theorem xorRm8R8 (rm : Rm8) (r : Reg8) : Statement (.xorRm8R8 rm r) := plain_length _ (rm8_length _ _)
theorem xorRm16R16 (rm : Rm16) (r : Reg16) : Statement (.xorRm16R16 rm r) := plain_length _ (rm16_length _ _)
theorem xorR8Rm8 (r : Reg8) (rm : Rm8) : Statement (.xorR8Rm8 r rm) := plain_length _ (rm8_length _ _)
theorem xorR16Rm16 (r : Reg16) (rm : Rm16) : Statement (.xorR16Rm16 r rm) := plain_length _ (rm16_length _ _)
theorem xorAlImm8 (imm : Byte) : Statement (.xorAlImm8 imm) := short_length _ _ (by simp)
theorem xorAxImm16 (imm : Word) : Statement (.xorAxImm16 imm) := short_length _ _ (by simp [wordBytes])
theorem cmpRm8R8 (rm : Rm8) (r : Reg8) : Statement (.cmpRm8R8 rm r) := plain_length _ (rm8_length _ _)
theorem cmpRm16R16 (rm : Rm16) (r : Reg16) : Statement (.cmpRm16R16 rm r) := plain_length _ (rm16_length _ _)
theorem cmpR8Rm8 (r : Reg8) (rm : Rm8) : Statement (.cmpR8Rm8 r rm) := plain_length _ (rm8_length _ _)
theorem cmpR16Rm16 (r : Reg16) (rm : Rm16) : Statement (.cmpR16Rm16 r rm) := plain_length _ (rm16_length _ _)
theorem cmpAlImm8 (imm : Byte) : Statement (.cmpAlImm8 imm) := short_length _ _ (by simp)
theorem cmpAxImm16 (imm : Word) : Statement (.cmpAxImm16 imm) := short_length _ _ (by simp [wordBytes])
theorem pushEs : Statement (.pushEs) := short_length _ _ (by decide)
theorem popEs : Statement (.popEs) := short_length _ _ (by decide)
theorem pushCs : Statement (.pushCs) := short_length _ _ (by decide)
theorem pushSs : Statement (.pushSs) := short_length _ _ (by decide)
theorem popSs : Statement (.popSs) := short_length _ _ (by decide)
theorem pushDs : Statement (.pushDs) := short_length _ _ (by decide)
theorem popDs : Statement (.popDs) := short_length _ _ (by decide)
theorem prefixEs : Statement (.prefixEs) := short_length _ _ (by decide)
theorem prefixCs : Statement (.prefixCs) := short_length _ _ (by decide)
theorem prefixSs : Statement (.prefixSs) := short_length _ _ (by decide)
theorem prefixDs : Statement (.prefixDs) := short_length _ _ (by decide)
theorem incAx : Statement (.incAx) := short_length _ _ (by decide)
theorem incCx : Statement (.incCx) := short_length _ _ (by decide)
theorem incDx : Statement (.incDx) := short_length _ _ (by decide)
theorem incBx : Statement (.incBx) := short_length _ _ (by decide)
theorem incSp : Statement (.incSp) := short_length _ _ (by decide)
theorem incBp : Statement (.incBp) := short_length _ _ (by decide)
theorem incSi : Statement (.incSi) := short_length _ _ (by decide)
theorem incDi : Statement (.incDi) := short_length _ _ (by decide)
theorem decAx : Statement (.decAx) := short_length _ _ (by decide)
theorem decCx : Statement (.decCx) := short_length _ _ (by decide)
theorem decDx : Statement (.decDx) := short_length _ _ (by decide)
theorem decBx : Statement (.decBx) := short_length _ _ (by decide)
theorem decSp : Statement (.decSp) := short_length _ _ (by decide)
theorem decBp : Statement (.decBp) := short_length _ _ (by decide)
theorem decSi : Statement (.decSi) := short_length _ _ (by decide)
theorem decDi : Statement (.decDi) := short_length _ _ (by decide)
theorem pushAx : Statement (.pushAx) := short_length _ _ (by decide)
theorem pushCx : Statement (.pushCx) := short_length _ _ (by decide)
theorem pushDx : Statement (.pushDx) := short_length _ _ (by decide)
theorem pushBx : Statement (.pushBx) := short_length _ _ (by decide)
theorem pushSp : Statement (.pushSp) := short_length _ _ (by decide)
theorem pushBp : Statement (.pushBp) := short_length _ _ (by decide)
theorem pushSi : Statement (.pushSi) := short_length _ _ (by decide)
theorem pushDi : Statement (.pushDi) := short_length _ _ (by decide)
theorem popAx : Statement (.popAx) := short_length _ _ (by decide)
theorem popCx : Statement (.popCx) := short_length _ _ (by decide)
theorem popDx : Statement (.popDx) := short_length _ _ (by decide)
theorem popBx : Statement (.popBx) := short_length _ _ (by decide)
theorem popSp : Statement (.popSp) := short_length _ _ (by decide)
theorem popBp : Statement (.popBp) := short_length _ _ (by decide)
theorem popSi : Statement (.popSi) := short_length _ _ (by decide)
theorem popDi : Statement (.popDi) := short_length _ _ (by decide)
theorem joRel8 (rel : Byte) : Statement (.joRel8 rel) := short_length _ _ (by simp)
theorem jnoRel8 (rel : Byte) : Statement (.jnoRel8 rel) := short_length _ _ (by simp)
theorem jbRel8 (rel : Byte) : Statement (.jbRel8 rel) := short_length _ _ (by simp)
theorem jaeRel8 (rel : Byte) : Statement (.jaeRel8 rel) := short_length _ _ (by simp)
theorem jeRel8 (rel : Byte) : Statement (.jeRel8 rel) := short_length _ _ (by simp)
theorem jneRel8 (rel : Byte) : Statement (.jneRel8 rel) := short_length _ _ (by simp)
theorem jbeRel8 (rel : Byte) : Statement (.jbeRel8 rel) := short_length _ _ (by simp)
theorem jaRel8 (rel : Byte) : Statement (.jaRel8 rel) := short_length _ _ (by simp)
theorem jsRel8 (rel : Byte) : Statement (.jsRel8 rel) := short_length _ _ (by simp)
theorem jnsRel8 (rel : Byte) : Statement (.jnsRel8 rel) := short_length _ _ (by simp)
theorem jpRel8 (rel : Byte) : Statement (.jpRel8 rel) := short_length _ _ (by simp)
theorem jnpRel8 (rel : Byte) : Statement (.jnpRel8 rel) := short_length _ _ (by simp)
theorem jlRel8 (rel : Byte) : Statement (.jlRel8 rel) := short_length _ _ (by simp)
theorem jgeRel8 (rel : Byte) : Statement (.jgeRel8 rel) := short_length _ _ (by simp)
theorem jleRel8 (rel : Byte) : Statement (.jleRel8 rel) := short_length _ _ (by simp)
theorem jgRel8 (rel : Byte) : Statement (.jgRel8 rel) := short_length _ _ (by simp)
theorem addRm8Imm8 (rm : Rm8) (imm : Byte) : Statement (.addRm8Imm8 rm imm) :=
  modrm_length _ _ (rm8_length _ _) (by simp)
theorem orRm8Imm8 (rm : Rm8) (imm : Byte) : Statement (.orRm8Imm8 rm imm) :=
  modrm_length _ _ (rm8_length _ _) (by simp)
theorem adcRm8Imm8 (rm : Rm8) (imm : Byte) : Statement (.adcRm8Imm8 rm imm) :=
  modrm_length _ _ (rm8_length _ _) (by simp)
theorem sbbRm8Imm8 (rm : Rm8) (imm : Byte) : Statement (.sbbRm8Imm8 rm imm) :=
  modrm_length _ _ (rm8_length _ _) (by simp)
theorem andRm8Imm8 (rm : Rm8) (imm : Byte) : Statement (.andRm8Imm8 rm imm) :=
  modrm_length _ _ (rm8_length _ _) (by simp)
theorem subRm8Imm8 (rm : Rm8) (imm : Byte) : Statement (.subRm8Imm8 rm imm) :=
  modrm_length _ _ (rm8_length _ _) (by simp)
theorem xorRm8Imm8 (rm : Rm8) (imm : Byte) : Statement (.xorRm8Imm8 rm imm) :=
  modrm_length _ _ (rm8_length _ _) (by simp)
theorem cmpRm8Imm8 (rm : Rm8) (imm : Byte) : Statement (.cmpRm8Imm8 rm imm) :=
  modrm_length _ _ (rm8_length _ _) (by simp)
theorem addRm16Imm16 (rm : Rm16) (imm : Word) : Statement (.addRm16Imm16 rm imm) :=
  modrm_length _ _ (rm16_length _ _) (by simp [wordBytes])
theorem orRm16Imm16 (rm : Rm16) (imm : Word) : Statement (.orRm16Imm16 rm imm) :=
  modrm_length _ _ (rm16_length _ _) (by simp [wordBytes])
theorem adcRm16Imm16 (rm : Rm16) (imm : Word) : Statement (.adcRm16Imm16 rm imm) :=
  modrm_length _ _ (rm16_length _ _) (by simp [wordBytes])
theorem sbbRm16Imm16 (rm : Rm16) (imm : Word) : Statement (.sbbRm16Imm16 rm imm) :=
  modrm_length _ _ (rm16_length _ _) (by simp [wordBytes])
theorem andRm16Imm16 (rm : Rm16) (imm : Word) : Statement (.andRm16Imm16 rm imm) :=
  modrm_length _ _ (rm16_length _ _) (by simp [wordBytes])
theorem subRm16Imm16 (rm : Rm16) (imm : Word) : Statement (.subRm16Imm16 rm imm) :=
  modrm_length _ _ (rm16_length _ _) (by simp [wordBytes])
theorem xorRm16Imm16 (rm : Rm16) (imm : Word) : Statement (.xorRm16Imm16 rm imm) :=
  modrm_length _ _ (rm16_length _ _) (by simp [wordBytes])
theorem cmpRm16Imm16 (rm : Rm16) (imm : Word) : Statement (.cmpRm16Imm16 rm imm) :=
  modrm_length _ _ (rm16_length _ _) (by simp [wordBytes])
theorem addRm16Imm8 (rm : Rm16) (imm : Byte) : Statement (.addRm16Imm8 rm imm) :=
  modrm_length _ _ (rm16_length _ _) (by simp)
theorem orRm16Imm8 (rm : Rm16) (imm : Byte) : Statement (.orRm16Imm8 rm imm) :=
  modrm_length _ _ (rm16_length _ _) (by simp)
theorem adcRm16Imm8 (rm : Rm16) (imm : Byte) : Statement (.adcRm16Imm8 rm imm) :=
  modrm_length _ _ (rm16_length _ _) (by simp)
theorem sbbRm16Imm8 (rm : Rm16) (imm : Byte) : Statement (.sbbRm16Imm8 rm imm) :=
  modrm_length _ _ (rm16_length _ _) (by simp)
theorem andRm16Imm8 (rm : Rm16) (imm : Byte) : Statement (.andRm16Imm8 rm imm) :=
  modrm_length _ _ (rm16_length _ _) (by simp)
theorem subRm16Imm8 (rm : Rm16) (imm : Byte) : Statement (.subRm16Imm8 rm imm) :=
  modrm_length _ _ (rm16_length _ _) (by simp)
theorem xorRm16Imm8 (rm : Rm16) (imm : Byte) : Statement (.xorRm16Imm8 rm imm) :=
  modrm_length _ _ (rm16_length _ _) (by simp)
theorem cmpRm16Imm8 (rm : Rm16) (imm : Byte) : Statement (.cmpRm16Imm8 rm imm) :=
  modrm_length _ _ (rm16_length _ _) (by simp)
theorem testRm8R8 (rm : Rm8) (r : Reg8) : Statement (.testRm8R8 rm r) := plain_length _ (rm8_length _ _)
theorem testRm16R16 (rm : Rm16) (r : Reg16) : Statement (.testRm16R16 rm r) := plain_length _ (rm16_length _ _)
theorem xchgRm8R8 (rm : Rm8) (r : Reg8) : Statement (.xchgRm8R8 rm r) := plain_length _ (rm8_length _ _)
theorem xchgRm16R16 (rm : Rm16) (r : Reg16) : Statement (.xchgRm16R16 rm r) := plain_length _ (rm16_length _ _)
theorem movRm8R8 (rm : Rm8) (r : Reg8) : Statement (.movRm8R8 rm r) := plain_length _ (rm8_length _ _)
theorem movRm16R16 (rm : Rm16) (r : Reg16) : Statement (.movRm16R16 rm r) := plain_length _ (rm16_length _ _)
theorem movR8Rm8 (r : Reg8) (rm : Rm8) : Statement (.movR8Rm8 r rm) := plain_length _ (rm8_length _ _)
theorem movR16Rm16 (r : Reg16) (rm : Rm16) : Statement (.movR16Rm16 r rm) := plain_length _ (rm16_length _ _)
theorem movRm16Sreg (rm : Rm16) (sr : SegReg) : Statement (.movRm16Sreg rm sr) := plain_length _ (rm16_length _ _)
theorem leaR16M (r : Reg16) (m : MemRef) : Statement (.leaR16M r m) := plain_length _ (memRef_length _ _)
theorem movEsRm16 (rm : Rm16) : Statement (.movEsRm16 rm) := plain_length _ (rm16_length _ _)
theorem movSsDsRm16 (sr : SegReg) (rm : Rm16) : Statement (.movSsDsRm16 sr rm) := plain_length _ (rm16_length _ _)
theorem popRm16 (rm : Rm16) : Statement (.popRm16 rm) := plain_length _ (rm16_length _ _)
theorem nop : Statement (.nop) := short_length _ _ (by decide)
theorem xchgAxCx : Statement (.xchgAxCx) := short_length _ _ (by decide)
theorem xchgAxDx : Statement (.xchgAxDx) := short_length _ _ (by decide)
theorem xchgAxBx : Statement (.xchgAxBx) := short_length _ _ (by decide)
theorem xchgAxSp : Statement (.xchgAxSp) := short_length _ _ (by decide)
theorem xchgAxBp : Statement (.xchgAxBp) := short_length _ _ (by decide)
theorem xchgAxSi : Statement (.xchgAxSi) := short_length _ _ (by decide)
theorem xchgAxDi : Statement (.xchgAxDi) := short_length _ _ (by decide)
theorem cbw : Statement (.cbw) := short_length _ _ (by decide)
theorem cwd : Statement (.cwd) := short_length _ _ (by decide)
theorem pushf : Statement (.pushf) := short_length _ _ (by decide)
theorem popf : Statement (.popf) := short_length _ _ (by decide)
theorem sahf : Statement (.sahf) := short_length _ _ (by decide)
theorem lahf : Statement (.lahf) := short_length _ _ (by decide)
theorem movAlMoffs8 (off : Word) : Statement (.movAlMoffs8 off) := short_length _ _ (by simp [wordBytes])
theorem movAxMoffs16 (off : Word) : Statement (.movAxMoffs16 off) := short_length _ _ (by simp [wordBytes])
theorem movMoffs8Al (off : Word) : Statement (.movMoffs8Al off) := short_length _ _ (by simp [wordBytes])
theorem movMoffs16Ax (off : Word) : Statement (.movMoffs16Ax off) := short_length _ _ (by simp [wordBytes])
theorem testAlImm8 (imm : Byte) : Statement (.testAlImm8 imm) := short_length _ _ (by simp)
theorem testAxImm16 (imm : Word) : Statement (.testAxImm16 imm) := short_length _ _ (by simp [wordBytes])
theorem movAlImm8 (imm : Byte) : Statement (.movAlImm8 imm) := short_length _ _ (by simp)
theorem movClImm8 (imm : Byte) : Statement (.movClImm8 imm) := short_length _ _ (by simp)
theorem movDlImm8 (imm : Byte) : Statement (.movDlImm8 imm) := short_length _ _ (by simp)
theorem movBlImm8 (imm : Byte) : Statement (.movBlImm8 imm) := short_length _ _ (by simp)
theorem movAhImm8 (imm : Byte) : Statement (.movAhImm8 imm) := short_length _ _ (by simp)
theorem movChImm8 (imm : Byte) : Statement (.movChImm8 imm) := short_length _ _ (by simp)
theorem movDhImm8 (imm : Byte) : Statement (.movDhImm8 imm) := short_length _ _ (by simp)
theorem movBhImm8 (imm : Byte) : Statement (.movBhImm8 imm) := short_length _ _ (by simp)
theorem movAxImm16 (imm : Word) : Statement (.movAxImm16 imm) := short_length _ _ (by simp [wordBytes])
theorem movCxImm16 (imm : Word) : Statement (.movCxImm16 imm) := short_length _ _ (by simp [wordBytes])
theorem movDxImm16 (imm : Word) : Statement (.movDxImm16 imm) := short_length _ _ (by simp [wordBytes])
theorem movBxImm16 (imm : Word) : Statement (.movBxImm16 imm) := short_length _ _ (by simp [wordBytes])
theorem movSpImm16 (imm : Word) : Statement (.movSpImm16 imm) := short_length _ _ (by simp [wordBytes])
theorem movBpImm16 (imm : Word) : Statement (.movBpImm16 imm) := short_length _ _ (by simp [wordBytes])
theorem movSiImm16 (imm : Word) : Statement (.movSiImm16 imm) := short_length _ _ (by simp [wordBytes])
theorem movDiImm16 (imm : Word) : Statement (.movDiImm16 imm) := short_length _ _ (by simp [wordBytes])
theorem retImm16 (imm : Word) : Statement (.retImm16 imm) := short_length _ _ (by simp [wordBytes])
theorem ret : Statement (.ret) := short_length _ _ (by decide)
theorem movRm8Imm8 (rm : Rm8) (imm : Byte) : Statement (.movRm8Imm8 rm imm) :=
  modrm_length _ _ (rm8_length _ _) (by simp)
theorem movRm16Imm16 (rm : Rm16) (imm : Word) : Statement (.movRm16Imm16 rm imm) :=
  modrm_length _ _ (rm16_length _ _) (by simp [wordBytes])
theorem loopneRel8 (rel : Byte) : Statement (.loopneRel8 rel) := short_length _ _ (by simp)
theorem loopeRel8 (rel : Byte) : Statement (.loopeRel8 rel) := short_length _ _ (by simp)
theorem loopRel8 (rel : Byte) : Statement (.loopRel8 rel) := short_length _ _ (by simp)
theorem jcxzRel8 (rel : Byte) : Statement (.jcxzRel8 rel) := short_length _ _ (by simp)
theorem callRel16 (rel : Word) : Statement (.callRel16 rel) := short_length _ _ (by simp [wordBytes])
theorem jmpRel16 (rel : Word) : Statement (.jmpRel16 rel) := short_length _ _ (by simp [wordBytes])
theorem jmpRel8 (rel : Byte) : Statement (.jmpRel8 rel) := short_length _ _ (by simp)
theorem hlt : Statement (.hlt) := short_length _ _ (by decide)
theorem cmc : Statement (.cmc) := short_length _ _ (by decide)
theorem clc : Statement (.clc) := short_length _ _ (by decide)
theorem stc : Statement (.stc) := short_length _ _ (by decide)
theorem cli : Statement (.cli) := short_length _ _ (by decide)
theorem sti : Statement (.sti) := short_length _ _ (by decide)
theorem cld : Statement (.cld) := short_length _ _ (by decide)
theorem std : Statement (.std) := short_length _ _ (by decide)
theorem testRm8Imm8 (rm : Rm8) (imm : Byte) : Statement (.testRm8Imm8 rm imm) :=
  modrm_length _ _ (rm8_length _ _) (by simp)
theorem testRm16Imm16 (rm : Rm16) (imm : Word) : Statement (.testRm16Imm16 rm imm) :=
  modrm_length _ _ (rm16_length _ _) (by simp [wordBytes])
theorem notRm8 (rm : Rm8) : Statement (.notRm8 rm) := plain_length _ (rm8_length _ _)
theorem notRm16 (rm : Rm16) : Statement (.notRm16 rm) := plain_length _ (rm16_length _ _)
theorem negRm8 (rm : Rm8) : Statement (.negRm8 rm) := plain_length _ (rm8_length _ _)
theorem negRm16 (rm : Rm16) : Statement (.negRm16 rm) := plain_length _ (rm16_length _ _)
theorem mulRm8 (rm : Rm8) : Statement (.mulRm8 rm) := plain_length _ (rm8_length _ _)
theorem mulRm16 (rm : Rm16) : Statement (.mulRm16 rm) := plain_length _ (rm16_length _ _)
theorem imulRm8 (rm : Rm8) : Statement (.imulRm8 rm) := plain_length _ (rm8_length _ _)
theorem imulRm16 (rm : Rm16) : Statement (.imulRm16 rm) := plain_length _ (rm16_length _ _)
theorem divRm8 (rm : Rm8) : Statement (.divRm8 rm) := plain_length _ (rm8_length _ _)
theorem divRm16 (rm : Rm16) : Statement (.divRm16 rm) := plain_length _ (rm16_length _ _)
theorem idivRm8 (rm : Rm8) : Statement (.idivRm8 rm) := plain_length _ (rm8_length _ _)
theorem idivRm16 (rm : Rm16) : Statement (.idivRm16 rm) := plain_length _ (rm16_length _ _)
theorem incRm8 (rm : Rm8) : Statement (.incRm8 rm) := plain_length _ (rm8_length _ _)
theorem decRm8 (rm : Rm8) : Statement (.decRm8 rm) := plain_length _ (rm8_length _ _)
theorem incRm16 (rm : Rm16) : Statement (.incRm16 rm) := plain_length _ (rm16_length _ _)
theorem decRm16 (rm : Rm16) : Statement (.decRm16 rm) := plain_length _ (rm16_length _ _)
theorem callRm16 (rm : Rm16) : Statement (.callRm16 rm) := plain_length _ (rm16_length _ _)
theorem jmpRm16 (rm : Rm16) : Statement (.jmpRm16 rm) := plain_length _ (rm16_length _ _)
theorem pushRm16 (rm : Rm16) : Statement (.pushRm16 rm) := plain_length _ (rm16_length _ _)
theorem invalid (opc : Byte) (modrm : Option Byte) : Statement (.invalid opc modrm) :=
  by cases modrm <;> exact short_length _ _ (by simp)

end Sys2Proof.Laws.EncodedLength
end

