-- ==== Sys2Proof/Tests/Slice0.lean ====
section
/-! SUPPORT. The tests of this model. Their words are written out from the spec's encoding tables (30_encoding.md), their
expected results are the spec's own test vectors (95_test_vectors.md) and the examples of its rules. -/

namespace Sys2Proof.Machine

/-! ## WellFormed refuses what no byte sequence encodes -/

/-- Mod 00 with rm 110 is the direct address: `[BP]` without displacement has no encoding (R123). -/
theorem test_wf_refuses_base_bp : MemRef.wf (.base .bp) = false := by decide
theorem test_wf_refuses_rm_with_base_bp : Rm.wf (ρ := Reg16) (.mem (.base .bp)) = false := by decide
theorem test_wf_refuses_mov_with_base_bp : Instr.wf (.movRm16R16 (.mem (.base .bp)) .ax) = false := by decide
theorem test_wf_refuses_lea_with_base_bp : Instr.wf (.leaR16M .ax (.base .bp)) = false := by decide
/-- 8E with reg = 1 is InvalidOpcode, and ES has its own constructor (R144). -/
theorem test_wf_refuses_mov_to_cs : Instr.wf (.movSsDsRm16 .cs (.reg .ax)) = false := by decide
theorem test_wf_refuses_es_as_ss_ds : Instr.wf (.movSsDsRm16 .es (.reg .ax)) = false := by decide
/-- `invalid` stands only for encodings that R166 rejects. -/
theorem test_wf_refuses_nop_as_invalid : Instr.wf (.invalid 0x90 none) = false := by decide
theorem test_wf_refuses_prefix_as_invalid : Instr.wf (.invalid 0x26 none) = false := by decide
theorem test_wf_refuses_allowed_modrm_as_invalid : Instr.wf (.invalid 0xFE (some 0xC8)) = false := by decide
theorem test_wf_accepts : Instr.wf (.movRm16R16 (.mem (.disp8 .bp 0)) .ax) = true ∧ Instr.wf (.movSsDsRm16 .ds (.reg .ax)) = true ∧
    Instr.wf (.invalid 0x0F none) = true ∧ Instr.wf (.invalid 0xFE (some 0xD0)) = true := by decide

/-! ## Decoding every constructor

The ModRM byte of each is mod = 01, rm = 011 (BP + DI + disp8), with the reg field the row gives or, where it names a
register, reg = 001 (CL or CX); the displacement is 9C; an imm8 or rel8 is A5; a word operand is the bytes A5 5A. -/

theorem test_decode_row_0_part1 :
    decodeUnit [0x00, 0x4B, 0x9C] = .ok (.addRm8R8 (.mem (.disp8 .bpDi 0x9C)) .cl) [] ∧
    decodeUnit [0x01, 0x4B, 0x9C] = .ok (.addRm16R16 (.mem (.disp8 .bpDi 0x9C)) .cx) [] ∧
    decodeUnit [0x02, 0x4B, 0x9C] = .ok (.addR8Rm8 .cl (.mem (.disp8 .bpDi 0x9C))) [] ∧
    decodeUnit [0x03, 0x4B, 0x9C] = .ok (.addR16Rm16 .cx (.mem (.disp8 .bpDi 0x9C))) [] ∧
    decodeUnit [0x04, 0xA5] = .ok (.addAlImm8 0xA5) [] ∧
    decodeUnit [0x05, 0xA5, 0x5A] = .ok (.addAxImm16 0x5AA5) [] ∧
    decodeUnit [0x08, 0x4B, 0x9C] = .ok (.orRm8R8 (.mem (.disp8 .bpDi 0x9C)) .cl) [] ∧
    decodeUnit [0x09, 0x4B, 0x9C] = .ok (.orRm16R16 (.mem (.disp8 .bpDi 0x9C)) .cx) [] := by decide

theorem test_decode_row_0_part2 :
    decodeUnit [0x0A, 0x4B, 0x9C] = .ok (.orR8Rm8 .cl (.mem (.disp8 .bpDi 0x9C))) [] ∧
    decodeUnit [0x0B, 0x4B, 0x9C] = .ok (.orR16Rm16 .cx (.mem (.disp8 .bpDi 0x9C))) [] ∧
    decodeUnit [0x0C, 0xA5] = .ok (.orAlImm8 0xA5) [] ∧
    decodeUnit [0x0D, 0xA5, 0x5A] = .ok (.orAxImm16 0x5AA5) [] ∧
    decodeUnit [0x06] = .ok (.pushEs) [] ∧
    decodeUnit [0x07] = .ok (.popEs) [] ∧
    decodeUnit [0x0E] = .ok (.pushCs) [] ∧
    decodeUnit [0x0F] = .ok (.invalid 0x0F none) [] := by decide

theorem test_decode_row_1_part1 :
    decodeUnit [0x10, 0x4B, 0x9C] = .ok (.adcRm8R8 (.mem (.disp8 .bpDi 0x9C)) .cl) [] ∧
    decodeUnit [0x11, 0x4B, 0x9C] = .ok (.adcRm16R16 (.mem (.disp8 .bpDi 0x9C)) .cx) [] ∧
    decodeUnit [0x12, 0x4B, 0x9C] = .ok (.adcR8Rm8 .cl (.mem (.disp8 .bpDi 0x9C))) [] ∧
    decodeUnit [0x13, 0x4B, 0x9C] = .ok (.adcR16Rm16 .cx (.mem (.disp8 .bpDi 0x9C))) [] ∧
    decodeUnit [0x14, 0xA5] = .ok (.adcAlImm8 0xA5) [] ∧
    decodeUnit [0x15, 0xA5, 0x5A] = .ok (.adcAxImm16 0x5AA5) [] ∧
    decodeUnit [0x18, 0x4B, 0x9C] = .ok (.sbbRm8R8 (.mem (.disp8 .bpDi 0x9C)) .cl) [] ∧
    decodeUnit [0x19, 0x4B, 0x9C] = .ok (.sbbRm16R16 (.mem (.disp8 .bpDi 0x9C)) .cx) [] := by decide

theorem test_decode_row_1_part2 :
    decodeUnit [0x1A, 0x4B, 0x9C] = .ok (.sbbR8Rm8 .cl (.mem (.disp8 .bpDi 0x9C))) [] ∧
    decodeUnit [0x1B, 0x4B, 0x9C] = .ok (.sbbR16Rm16 .cx (.mem (.disp8 .bpDi 0x9C))) [] ∧
    decodeUnit [0x1C, 0xA5] = .ok (.sbbAlImm8 0xA5) [] ∧
    decodeUnit [0x1D, 0xA5, 0x5A] = .ok (.sbbAxImm16 0x5AA5) [] ∧
    decodeUnit [0x16] = .ok (.pushSs) [] ∧
    decodeUnit [0x17] = .ok (.popSs) [] ∧
    decodeUnit [0x1E] = .ok (.pushDs) [] ∧
    decodeUnit [0x1F] = .ok (.popDs) [] := by decide

theorem test_decode_row_2_part1 :
    decodeUnit [0x20, 0x4B, 0x9C] = .ok (.andRm8R8 (.mem (.disp8 .bpDi 0x9C)) .cl) [] ∧
    decodeUnit [0x21, 0x4B, 0x9C] = .ok (.andRm16R16 (.mem (.disp8 .bpDi 0x9C)) .cx) [] ∧
    decodeUnit [0x22, 0x4B, 0x9C] = .ok (.andR8Rm8 .cl (.mem (.disp8 .bpDi 0x9C))) [] ∧
    decodeUnit [0x23, 0x4B, 0x9C] = .ok (.andR16Rm16 .cx (.mem (.disp8 .bpDi 0x9C))) [] ∧
    decodeUnit [0x24, 0xA5] = .ok (.andAlImm8 0xA5) [] ∧
    decodeUnit [0x25, 0xA5, 0x5A] = .ok (.andAxImm16 0x5AA5) [] ∧
    decodeUnit [0x28, 0x4B, 0x9C] = .ok (.subRm8R8 (.mem (.disp8 .bpDi 0x9C)) .cl) [] ∧
    decodeUnit [0x29, 0x4B, 0x9C] = .ok (.subRm16R16 (.mem (.disp8 .bpDi 0x9C)) .cx) [] := by decide

theorem test_decode_row_2_part2 :
    decodeUnit [0x2A, 0x4B, 0x9C] = .ok (.subR8Rm8 .cl (.mem (.disp8 .bpDi 0x9C))) [] ∧
    decodeUnit [0x2B, 0x4B, 0x9C] = .ok (.subR16Rm16 .cx (.mem (.disp8 .bpDi 0x9C))) [] ∧
    decodeUnit [0x2C, 0xA5] = .ok (.subAlImm8 0xA5) [] ∧
    decodeUnit [0x2D, 0xA5, 0x5A] = .ok (.subAxImm16 0x5AA5) [] ∧
    decodeUnit [0x26] = .ok (.prefixEs) [] ∧
    decodeUnit [0x2E] = .ok (.prefixCs) [] := by decide

theorem test_decode_row_3_part1 :
    decodeUnit [0x30, 0x4B, 0x9C] = .ok (.xorRm8R8 (.mem (.disp8 .bpDi 0x9C)) .cl) [] ∧
    decodeUnit [0x31, 0x4B, 0x9C] = .ok (.xorRm16R16 (.mem (.disp8 .bpDi 0x9C)) .cx) [] ∧
    decodeUnit [0x32, 0x4B, 0x9C] = .ok (.xorR8Rm8 .cl (.mem (.disp8 .bpDi 0x9C))) [] ∧
    decodeUnit [0x33, 0x4B, 0x9C] = .ok (.xorR16Rm16 .cx (.mem (.disp8 .bpDi 0x9C))) [] ∧
    decodeUnit [0x34, 0xA5] = .ok (.xorAlImm8 0xA5) [] ∧
    decodeUnit [0x35, 0xA5, 0x5A] = .ok (.xorAxImm16 0x5AA5) [] ∧
    decodeUnit [0x38, 0x4B, 0x9C] = .ok (.cmpRm8R8 (.mem (.disp8 .bpDi 0x9C)) .cl) [] ∧
    decodeUnit [0x39, 0x4B, 0x9C] = .ok (.cmpRm16R16 (.mem (.disp8 .bpDi 0x9C)) .cx) [] := by decide

theorem test_decode_row_3_part2 :
    decodeUnit [0x3A, 0x4B, 0x9C] = .ok (.cmpR8Rm8 .cl (.mem (.disp8 .bpDi 0x9C))) [] ∧
    decodeUnit [0x3B, 0x4B, 0x9C] = .ok (.cmpR16Rm16 .cx (.mem (.disp8 .bpDi 0x9C))) [] ∧
    decodeUnit [0x3C, 0xA5] = .ok (.cmpAlImm8 0xA5) [] ∧
    decodeUnit [0x3D, 0xA5, 0x5A] = .ok (.cmpAxImm16 0x5AA5) [] ∧
    decodeUnit [0x36] = .ok (.prefixSs) [] ∧
    decodeUnit [0x3E] = .ok (.prefixDs) [] := by decide

theorem test_decode_row_4_part1 :
    decodeUnit [0x40] = .ok (.incAx) [] ∧
    decodeUnit [0x41] = .ok (.incCx) [] ∧
    decodeUnit [0x42] = .ok (.incDx) [] ∧
    decodeUnit [0x43] = .ok (.incBx) [] ∧
    decodeUnit [0x44] = .ok (.incSp) [] ∧
    decodeUnit [0x45] = .ok (.incBp) [] ∧
    decodeUnit [0x46] = .ok (.incSi) [] ∧
    decodeUnit [0x47] = .ok (.incDi) [] := by decide

theorem test_decode_row_4_part2 :
    decodeUnit [0x48] = .ok (.decAx) [] ∧
    decodeUnit [0x49] = .ok (.decCx) [] ∧
    decodeUnit [0x4A] = .ok (.decDx) [] ∧
    decodeUnit [0x4B] = .ok (.decBx) [] ∧
    decodeUnit [0x4C] = .ok (.decSp) [] ∧
    decodeUnit [0x4D] = .ok (.decBp) [] ∧
    decodeUnit [0x4E] = .ok (.decSi) [] ∧
    decodeUnit [0x4F] = .ok (.decDi) [] := by decide

theorem test_decode_row_5_part1 :
    decodeUnit [0x50] = .ok (.pushAx) [] ∧
    decodeUnit [0x51] = .ok (.pushCx) [] ∧
    decodeUnit [0x52] = .ok (.pushDx) [] ∧
    decodeUnit [0x53] = .ok (.pushBx) [] ∧
    decodeUnit [0x54] = .ok (.pushSp) [] ∧
    decodeUnit [0x55] = .ok (.pushBp) [] ∧
    decodeUnit [0x56] = .ok (.pushSi) [] ∧
    decodeUnit [0x57] = .ok (.pushDi) [] := by decide

theorem test_decode_row_5_part2 :
    decodeUnit [0x58] = .ok (.popAx) [] ∧
    decodeUnit [0x59] = .ok (.popCx) [] ∧
    decodeUnit [0x5A] = .ok (.popDx) [] ∧
    decodeUnit [0x5B] = .ok (.popBx) [] ∧
    decodeUnit [0x5C] = .ok (.popSp) [] ∧
    decodeUnit [0x5D] = .ok (.popBp) [] ∧
    decodeUnit [0x5E] = .ok (.popSi) [] ∧
    decodeUnit [0x5F] = .ok (.popDi) [] := by decide

theorem test_decode_row_7_part1 :
    decodeUnit [0x70, 0xA5] = .ok (.joRel8 0xA5) [] ∧
    decodeUnit [0x71, 0xA5] = .ok (.jnoRel8 0xA5) [] ∧
    decodeUnit [0x72, 0xA5] = .ok (.jbRel8 0xA5) [] ∧
    decodeUnit [0x73, 0xA5] = .ok (.jaeRel8 0xA5) [] ∧
    decodeUnit [0x74, 0xA5] = .ok (.jeRel8 0xA5) [] ∧
    decodeUnit [0x75, 0xA5] = .ok (.jneRel8 0xA5) [] ∧
    decodeUnit [0x76, 0xA5] = .ok (.jbeRel8 0xA5) [] ∧
    decodeUnit [0x77, 0xA5] = .ok (.jaRel8 0xA5) [] := by decide

theorem test_decode_row_7_part2 :
    decodeUnit [0x78, 0xA5] = .ok (.jsRel8 0xA5) [] ∧
    decodeUnit [0x79, 0xA5] = .ok (.jnsRel8 0xA5) [] ∧
    decodeUnit [0x7A, 0xA5] = .ok (.jpRel8 0xA5) [] ∧
    decodeUnit [0x7B, 0xA5] = .ok (.jnpRel8 0xA5) [] ∧
    decodeUnit [0x7C, 0xA5] = .ok (.jlRel8 0xA5) [] ∧
    decodeUnit [0x7D, 0xA5] = .ok (.jgeRel8 0xA5) [] ∧
    decodeUnit [0x7E, 0xA5] = .ok (.jleRel8 0xA5) [] ∧
    decodeUnit [0x7F, 0xA5] = .ok (.jgRel8 0xA5) [] := by decide

theorem test_decode_row_8_part1 :
    decodeUnit [0x80, 0x43, 0x9C, 0xA5] = .ok (.addRm8Imm8 (.mem (.disp8 .bpDi 0x9C)) 0xA5) [] ∧
    decodeUnit [0x80, 0x4B, 0x9C, 0xA5] = .ok (.orRm8Imm8 (.mem (.disp8 .bpDi 0x9C)) 0xA5) [] ∧
    decodeUnit [0x80, 0x53, 0x9C, 0xA5] = .ok (.adcRm8Imm8 (.mem (.disp8 .bpDi 0x9C)) 0xA5) [] ∧
    decodeUnit [0x80, 0x5B, 0x9C, 0xA5] = .ok (.sbbRm8Imm8 (.mem (.disp8 .bpDi 0x9C)) 0xA5) [] ∧
    decodeUnit [0x80, 0x63, 0x9C, 0xA5] = .ok (.andRm8Imm8 (.mem (.disp8 .bpDi 0x9C)) 0xA5) [] ∧
    decodeUnit [0x80, 0x6B, 0x9C, 0xA5] = .ok (.subRm8Imm8 (.mem (.disp8 .bpDi 0x9C)) 0xA5) [] ∧
    decodeUnit [0x80, 0x73, 0x9C, 0xA5] = .ok (.xorRm8Imm8 (.mem (.disp8 .bpDi 0x9C)) 0xA5) [] ∧
    decodeUnit [0x80, 0x7B, 0x9C, 0xA5] = .ok (.cmpRm8Imm8 (.mem (.disp8 .bpDi 0x9C)) 0xA5) [] := by decide

theorem test_decode_row_8_part2 :
    decodeUnit [0x81, 0x43, 0x9C, 0xA5, 0x5A] = .ok (.addRm16Imm16 (.mem (.disp8 .bpDi 0x9C)) 0x5AA5) [] ∧
    decodeUnit [0x81, 0x4B, 0x9C, 0xA5, 0x5A] = .ok (.orRm16Imm16 (.mem (.disp8 .bpDi 0x9C)) 0x5AA5) [] ∧
    decodeUnit [0x81, 0x53, 0x9C, 0xA5, 0x5A] = .ok (.adcRm16Imm16 (.mem (.disp8 .bpDi 0x9C)) 0x5AA5) [] ∧
    decodeUnit [0x81, 0x5B, 0x9C, 0xA5, 0x5A] = .ok (.sbbRm16Imm16 (.mem (.disp8 .bpDi 0x9C)) 0x5AA5) [] ∧
    decodeUnit [0x81, 0x63, 0x9C, 0xA5, 0x5A] = .ok (.andRm16Imm16 (.mem (.disp8 .bpDi 0x9C)) 0x5AA5) [] ∧
    decodeUnit [0x81, 0x6B, 0x9C, 0xA5, 0x5A] = .ok (.subRm16Imm16 (.mem (.disp8 .bpDi 0x9C)) 0x5AA5) [] ∧
    decodeUnit [0x81, 0x73, 0x9C, 0xA5, 0x5A] = .ok (.xorRm16Imm16 (.mem (.disp8 .bpDi 0x9C)) 0x5AA5) [] ∧
    decodeUnit [0x81, 0x7B, 0x9C, 0xA5, 0x5A] = .ok (.cmpRm16Imm16 (.mem (.disp8 .bpDi 0x9C)) 0x5AA5) [] := by decide

theorem test_decode_row_8_part3 :
    decodeUnit [0x83, 0x43, 0x9C, 0xA5] = .ok (.addRm16Imm8 (.mem (.disp8 .bpDi 0x9C)) 0xA5) [] ∧
    decodeUnit [0x83, 0x4B, 0x9C, 0xA5] = .ok (.orRm16Imm8 (.mem (.disp8 .bpDi 0x9C)) 0xA5) [] ∧
    decodeUnit [0x83, 0x53, 0x9C, 0xA5] = .ok (.adcRm16Imm8 (.mem (.disp8 .bpDi 0x9C)) 0xA5) [] ∧
    decodeUnit [0x83, 0x5B, 0x9C, 0xA5] = .ok (.sbbRm16Imm8 (.mem (.disp8 .bpDi 0x9C)) 0xA5) [] ∧
    decodeUnit [0x83, 0x63, 0x9C, 0xA5] = .ok (.andRm16Imm8 (.mem (.disp8 .bpDi 0x9C)) 0xA5) [] ∧
    decodeUnit [0x83, 0x6B, 0x9C, 0xA5] = .ok (.subRm16Imm8 (.mem (.disp8 .bpDi 0x9C)) 0xA5) [] ∧
    decodeUnit [0x83, 0x73, 0x9C, 0xA5] = .ok (.xorRm16Imm8 (.mem (.disp8 .bpDi 0x9C)) 0xA5) [] ∧
    decodeUnit [0x83, 0x7B, 0x9C, 0xA5] = .ok (.cmpRm16Imm8 (.mem (.disp8 .bpDi 0x9C)) 0xA5) [] := by decide

theorem test_decode_row_8_part4 :
    decodeUnit [0x84, 0x4B, 0x9C] = .ok (.testRm8R8 (.mem (.disp8 .bpDi 0x9C)) .cl) [] ∧
    decodeUnit [0x85, 0x4B, 0x9C] = .ok (.testRm16R16 (.mem (.disp8 .bpDi 0x9C)) .cx) [] ∧
    decodeUnit [0x86, 0x4B, 0x9C] = .ok (.xchgRm8R8 (.mem (.disp8 .bpDi 0x9C)) .cl) [] ∧
    decodeUnit [0x87, 0x4B, 0x9C] = .ok (.xchgRm16R16 (.mem (.disp8 .bpDi 0x9C)) .cx) [] ∧
    decodeUnit [0x88, 0x4B, 0x9C] = .ok (.movRm8R8 (.mem (.disp8 .bpDi 0x9C)) .cl) [] ∧
    decodeUnit [0x89, 0x4B, 0x9C] = .ok (.movRm16R16 (.mem (.disp8 .bpDi 0x9C)) .cx) [] ∧
    decodeUnit [0x8A, 0x4B, 0x9C] = .ok (.movR8Rm8 .cl (.mem (.disp8 .bpDi 0x9C))) [] ∧
    decodeUnit [0x8B, 0x4B, 0x9C] = .ok (.movR16Rm16 .cx (.mem (.disp8 .bpDi 0x9C))) [] := by decide

theorem test_decode_row_8_part5 :
    decodeUnit [0x8C, 0x4B, 0x9C] = .ok (.movRm16Sreg (.mem (.disp8 .bpDi 0x9C)) .cs) [] ∧
    decodeUnit [0x8D, 0x4B, 0x9C] = .ok (.leaR16M .cx (.disp8 .bpDi 0x9C)) [] ∧
    decodeUnit [0x8E, 0x43, 0x9C] = .ok (.movEsRm16 (.mem (.disp8 .bpDi 0x9C))) [] ∧
    decodeUnit [0x8E, 0x53, 0x9C] = .ok (.movSsDsRm16 .ss (.mem (.disp8 .bpDi 0x9C))) [] ∧
    decodeUnit [0x8F, 0x43, 0x9C] = .ok (.popRm16 (.mem (.disp8 .bpDi 0x9C))) [] := by decide

theorem test_decode_row_9_part1 :
    decodeUnit [0x90] = .ok (.nop) [] ∧
    decodeUnit [0x91] = .ok (.xchgAxCx) [] ∧
    decodeUnit [0x92] = .ok (.xchgAxDx) [] ∧
    decodeUnit [0x93] = .ok (.xchgAxBx) [] ∧
    decodeUnit [0x94] = .ok (.xchgAxSp) [] ∧
    decodeUnit [0x95] = .ok (.xchgAxBp) [] ∧
    decodeUnit [0x96] = .ok (.xchgAxSi) [] ∧
    decodeUnit [0x97] = .ok (.xchgAxDi) [] := by decide

theorem test_decode_row_9_part2 :
    decodeUnit [0x98] = .ok (.cbw) [] ∧
    decodeUnit [0x99] = .ok (.cwd) [] ∧
    decodeUnit [0x9C] = .ok (.pushf) [] ∧
    decodeUnit [0x9D] = .ok (.popf) [] ∧
    decodeUnit [0x9E] = .ok (.sahf) [] ∧
    decodeUnit [0x9F] = .ok (.lahf) [] := by decide

theorem test_decode_row_A :
    decodeUnit [0xA0, 0xA5, 0x5A] = .ok (.movAlMoffs8 0x5AA5) [] ∧
    decodeUnit [0xA1, 0xA5, 0x5A] = .ok (.movAxMoffs16 0x5AA5) [] ∧
    decodeUnit [0xA2, 0xA5, 0x5A] = .ok (.movMoffs8Al 0x5AA5) [] ∧
    decodeUnit [0xA3, 0xA5, 0x5A] = .ok (.movMoffs16Ax 0x5AA5) [] ∧
    decodeUnit [0xA8, 0xA5] = .ok (.testAlImm8 0xA5) [] ∧
    decodeUnit [0xA9, 0xA5, 0x5A] = .ok (.testAxImm16 0x5AA5) [] := by decide

theorem test_decode_row_B_part1 :
    decodeUnit [0xB0, 0xA5] = .ok (.movAlImm8 0xA5) [] ∧
    decodeUnit [0xB1, 0xA5] = .ok (.movClImm8 0xA5) [] ∧
    decodeUnit [0xB2, 0xA5] = .ok (.movDlImm8 0xA5) [] ∧
    decodeUnit [0xB3, 0xA5] = .ok (.movBlImm8 0xA5) [] ∧
    decodeUnit [0xB4, 0xA5] = .ok (.movAhImm8 0xA5) [] ∧
    decodeUnit [0xB5, 0xA5] = .ok (.movChImm8 0xA5) [] ∧
    decodeUnit [0xB6, 0xA5] = .ok (.movDhImm8 0xA5) [] ∧
    decodeUnit [0xB7, 0xA5] = .ok (.movBhImm8 0xA5) [] := by decide

theorem test_decode_row_B_part2 :
    decodeUnit [0xB8, 0xA5, 0x5A] = .ok (.movAxImm16 0x5AA5) [] ∧
    decodeUnit [0xB9, 0xA5, 0x5A] = .ok (.movCxImm16 0x5AA5) [] ∧
    decodeUnit [0xBA, 0xA5, 0x5A] = .ok (.movDxImm16 0x5AA5) [] ∧
    decodeUnit [0xBB, 0xA5, 0x5A] = .ok (.movBxImm16 0x5AA5) [] ∧
    decodeUnit [0xBC, 0xA5, 0x5A] = .ok (.movSpImm16 0x5AA5) [] ∧
    decodeUnit [0xBD, 0xA5, 0x5A] = .ok (.movBpImm16 0x5AA5) [] ∧
    decodeUnit [0xBE, 0xA5, 0x5A] = .ok (.movSiImm16 0x5AA5) [] ∧
    decodeUnit [0xBF, 0xA5, 0x5A] = .ok (.movDiImm16 0x5AA5) [] := by decide

theorem test_decode_row_C :
    decodeUnit [0xC2, 0xA5, 0x5A] = .ok (.retImm16 0x5AA5) [] ∧
    decodeUnit [0xC3] = .ok (.ret) [] ∧
    decodeUnit [0xC6, 0x43, 0x9C, 0xA5] = .ok (.movRm8Imm8 (.mem (.disp8 .bpDi 0x9C)) 0xA5) [] ∧
    decodeUnit [0xC7, 0x43, 0x9C, 0xA5, 0x5A] = .ok (.movRm16Imm16 (.mem (.disp8 .bpDi 0x9C)) 0x5AA5) [] := by decide

theorem test_decode_row_E :
    decodeUnit [0xE0, 0xA5] = .ok (.loopneRel8 0xA5) [] ∧
    decodeUnit [0xE1, 0xA5] = .ok (.loopeRel8 0xA5) [] ∧
    decodeUnit [0xE2, 0xA5] = .ok (.loopRel8 0xA5) [] ∧
    decodeUnit [0xE3, 0xA5] = .ok (.jcxzRel8 0xA5) [] ∧
    decodeUnit [0xE8, 0xA5, 0x5A] = .ok (.callRel16 0x5AA5) [] ∧
    decodeUnit [0xE9, 0xA5, 0x5A] = .ok (.jmpRel16 0x5AA5) [] ∧
    decodeUnit [0xEB, 0xA5] = .ok (.jmpRel8 0xA5) [] := by decide

theorem test_decode_row_F_part1 :
    decodeUnit [0xF4] = .ok (.hlt) [] ∧
    decodeUnit [0xF5] = .ok (.cmc) [] ∧
    decodeUnit [0xF8] = .ok (.clc) [] ∧
    decodeUnit [0xF9] = .ok (.stc) [] ∧
    decodeUnit [0xFA] = .ok (.cli) [] ∧
    decodeUnit [0xFB] = .ok (.sti) [] ∧
    decodeUnit [0xFC] = .ok (.cld) [] ∧
    decodeUnit [0xFD] = .ok (.std) [] := by decide

theorem test_decode_row_F_part2 :
    decodeUnit [0xF6, 0x43, 0x9C, 0xA5] = .ok (.testRm8Imm8 (.mem (.disp8 .bpDi 0x9C)) 0xA5) [] ∧
    decodeUnit [0xF7, 0x43, 0x9C, 0xA5, 0x5A] = .ok (.testRm16Imm16 (.mem (.disp8 .bpDi 0x9C)) 0x5AA5) [] ∧
    decodeUnit [0xF6, 0x53, 0x9C] = .ok (.notRm8 (.mem (.disp8 .bpDi 0x9C))) [] ∧
    decodeUnit [0xF7, 0x53, 0x9C] = .ok (.notRm16 (.mem (.disp8 .bpDi 0x9C))) [] ∧
    decodeUnit [0xF6, 0x5B, 0x9C] = .ok (.negRm8 (.mem (.disp8 .bpDi 0x9C))) [] ∧
    decodeUnit [0xF7, 0x5B, 0x9C] = .ok (.negRm16 (.mem (.disp8 .bpDi 0x9C))) [] ∧
    decodeUnit [0xF6, 0x63, 0x9C] = .ok (.mulRm8 (.mem (.disp8 .bpDi 0x9C))) [] ∧
    decodeUnit [0xF7, 0x63, 0x9C] = .ok (.mulRm16 (.mem (.disp8 .bpDi 0x9C))) [] := by decide

theorem test_decode_row_F_part3 :
    decodeUnit [0xF6, 0x6B, 0x9C] = .ok (.imulRm8 (.mem (.disp8 .bpDi 0x9C))) [] ∧
    decodeUnit [0xF7, 0x6B, 0x9C] = .ok (.imulRm16 (.mem (.disp8 .bpDi 0x9C))) [] ∧
    decodeUnit [0xF6, 0x73, 0x9C] = .ok (.divRm8 (.mem (.disp8 .bpDi 0x9C))) [] ∧
    decodeUnit [0xF7, 0x73, 0x9C] = .ok (.divRm16 (.mem (.disp8 .bpDi 0x9C))) [] ∧
    decodeUnit [0xF6, 0x7B, 0x9C] = .ok (.idivRm8 (.mem (.disp8 .bpDi 0x9C))) [] ∧
    decodeUnit [0xF7, 0x7B, 0x9C] = .ok (.idivRm16 (.mem (.disp8 .bpDi 0x9C))) [] ∧
    decodeUnit [0xFE, 0x43, 0x9C] = .ok (.incRm8 (.mem (.disp8 .bpDi 0x9C))) [] ∧
    decodeUnit [0xFE, 0x4B, 0x9C] = .ok (.decRm8 (.mem (.disp8 .bpDi 0x9C))) [] := by decide

theorem test_decode_row_F_part4 :
    decodeUnit [0xFF, 0x43, 0x9C] = .ok (.incRm16 (.mem (.disp8 .bpDi 0x9C))) [] ∧
    decodeUnit [0xFF, 0x4B, 0x9C] = .ok (.decRm16 (.mem (.disp8 .bpDi 0x9C))) [] ∧
    decodeUnit [0xFF, 0x53, 0x9C] = .ok (.callRm16 (.mem (.disp8 .bpDi 0x9C))) [] ∧
    decodeUnit [0xFF, 0x63, 0x9C] = .ok (.jmpRm16 (.mem (.disp8 .bpDi 0x9C))) [] ∧
    decodeUnit [0xFF, 0x73, 0x9C] = .ok (.pushRm16 (.mem (.disp8 .bpDi 0x9C))) [] := by decide

/-- The ModRM forms of R123 and R125, one for each mod and the direct address, and a prefixed instruction. -/
theorem test_decode_operand_forms :
    decode [0x8B, 0x06, 0x34, 0x12] = .ok none (.movR16Rm16 .ax (.mem (.direct 0x1234))) [] ∧
    decode [0x8B, 0x07] = .ok none (.movR16Rm16 .ax (.mem (.base .bx))) [] ∧
    decode [0x8B, 0x46, 0x00] = .ok none (.movR16Rm16 .ax (.mem (.disp8 .bp 0))) [] ∧
    decode [0x8B, 0x80, 0x34, 0x12] = .ok none (.movR16Rm16 .ax (.mem (.disp16 .bxSi 0x1234))) [] ∧
    decode [0x8B, 0xC3, 0xFF] = .ok none (.movR16Rm16 .ax (.reg .bx)) [0xFF] ∧
    decode [0x36, 0xA0, 0x10, 0x00] = .ok (some .prefixSs) (.movAlMoffs8 0x0010) [] ∧
    decode [0x2E, 0x3E, 0x90] = .ok (some .prefixCs) (.invalid 0x3E none) [0x90] ∧
    decode [0x8D] = .endOfProgram := by decide

/-- The numbers of spec/opcode_table.json: an 8-bit row is the opcode byte, a 16-bit row has it in bits 15:8. -/
theorem test_decode_table_numbers :
    decodeTableWord 8 0xF4 = some .hlt ∧ decodeTableWord 8 0x26 = some .prefixEs ∧
    decodeTableWord 16 0x8D40 = some (.leaR16M .ax (.disp8 .bxSi 0)) ∧
    decodeTableWord 16 0xFEC8 = some (.decRm8 (.reg .al)) ∧ decodeTableWord 8 0x0F = some (.invalid 0x0F none) := by decide

/-! ## One step on the spec's test vectors -/

/-- The image `bs` at entry 0, loaded with the default configuration, and then changed by `f`. -/
def loaded (bs : List Byte) (f : State → State) : State := f (load ⟨bs, bs.length, 0⟩ { } State.powerOn).1

/-- The next state of one step. -/
def after (bs : List Byte) (f : State → State) : Option State :=
  match step (loaded bs f) with
  | .next t => some t
  | _ => none

/-- CF PF AF Z S O, as 95_test_vectors.md lists them. -/
def six (t : State) : List Nat :=
  [t.flags.cf.toNat, t.flags.pf.toNat, t.flags.af.toNat, t.flags.zf.toNat, t.flags.sf.toNat, t.flags.ovf.toNat]

def withCf (s : State) : State := s.setFlags { s.flags with cf := true }

theorem test_add_wraps : (after [0x05, 0x01, 0x00] (fun s => (s).setX16 .ax 0xFFFF)).map (fun t => (t.x16 .ax, six t)) =
    some (0x0000, [1, 1, 1, 1, 0, 0]) := by decide

theorem test_add_signed_overflow : (after [0x01, 0xD8] (fun s => ((s).setX16 .ax 0x8000).setX16 .bx 0x8000)).map (fun t => (t.x16 .ax, t.x16 .bx, six t)) =
    some (0x0000, 0x8000, [1, 1, 0, 1, 0, 1]) := by decide

theorem test_add_byte_keeps_high : (after [0x04, 0x01] (fun s => (s).setX16 .ax 0x12FF)).map (fun t => (t.x16 .ax, six t)) =
    some (0x1200, [1, 1, 1, 1, 0, 0]) := by decide

theorem test_add_sign_extended_imm8 : (after [0x83, 0xC0, 0xFF] (fun s => (s).setX16 .ax 0x0001)).map (fun t => (t.x16 .ax, six t)) =
    some (0x0000, [1, 1, 1, 1, 0, 0]) := by decide

theorem test_adc_carry_in : (after [0x11, 0xD8] (fun s => withCf (((s).setX16 .ax 0xFFFF).setX16 .bx 0xFFFF))).map (fun t => (t.x16 .ax, six t)) =
    some (0xFFFF, [1, 1, 1, 0, 1, 0]) := by decide

theorem test_sub_borrow : (after [0x2D, 0x01, 0x00] (fun s => (s).setX16 .ax 0x0000)).map (fun t => (t.x16 .ax, six t)) =
    some (0xFFFF, [1, 1, 1, 0, 1, 0]) := by decide

theorem test_sub_signed_overflow : (after [0x29, 0xD8] (fun s => ((s).setX16 .ax 0x7FFF).setX16 .bx 0xFFFF)).map (fun t => (t.x16 .ax, six t)) =
    some (0x8000, [1, 1, 0, 0, 1, 1]) := by decide

theorem test_sbb_borrow_in : (after [0x19, 0xD8] (fun s => withCf (((s).setX16 .ax 0x0000).setX16 .bx 0xFFFF))).map (fun t => (t.x16 .ax, six t)) =
    some (0x0000, [1, 1, 1, 1, 0, 0]) := by decide

theorem test_sbb_byte : (after [0x1C, 0x01] (fun s => withCf ((s).setX16 .ax 0x0005))).map (fun t => (t.x16 .ax, six t)) =
    some (0x0003, [0, 1, 0, 0, 0, 0]) := by decide

theorem test_cmp_writes_nothing : (after [0x3C, 0x10] (fun s => (s).setX16 .ax 0x000F)).map (fun t => (t.x16 .ax, six t)) =
    some (0x000F, [1, 1, 0, 0, 1, 0]) := by decide

theorem test_cmp_memory : (after [0x38, 0x07] (fun s => (((s).setX16 .bx 0x0010).setX16 .ax 0x0005).memWrite8 (s.sreg .ds) 0x0010 0x05)).map (fun t => (t.memRead8 (t.sreg .ds) 0x0010, six t)) =
    some (5, [0, 1, 0, 1, 0, 0]) := by decide

theorem test_inc_keeps_cf : (after [0x40] (fun s => withCf ((s).setX16 .ax 0xFFFF))).map (fun t => (t.x16 .ax, six t)) =
    some (0x0000, [1, 1, 1, 1, 0, 0]) := by decide

theorem test_inc_memory_word : (after [0xFF, 0x07] (fun s => ((s).setX16 .bx 0x0020).memWrite8 (s.sreg .ds) 0x0020 0xFF)).map (fun t => (t.memRead16 (t.sreg .ds) 0x0020, six t)) =
    some (0x0100, [0, 1, 1, 0, 0, 0]) := by decide

theorem test_inc_byte : (after [0xFE, 0xC0] (fun s => (s).setX16 .ax 0x00FF)).map (fun t => (t.x16 .ax, six t)) =
    some (0x0000, [0, 1, 1, 1, 0, 0]) := by decide

theorem test_dec_overflow : (after [0x48] (fun s => (s).setX16 .ax 0x8000)).map (fun t => (t.x16 .ax, six t)) =
    some (0x7FFF, [0, 1, 1, 0, 0, 1]) := by decide

theorem test_dec_byte : (after [0xFE, 0xC8] (fun s => (s).setX16 .ax 0x0080)).map (fun t => (t.x16 .ax, six t)) =
    some (0x007F, [0, 0, 1, 0, 0, 1]) := by decide

theorem test_neg_least : (after [0xF6, 0xD8] (fun s => (s).setX16 .ax 0x0080)).map (fun t => (t.x16 .ax, six t)) =
    some (0x0080, [1, 0, 0, 0, 1, 1]) := by decide

theorem test_neg_word : (after [0xF7, 0xD8] (fun s => (s).setX16 .ax 0x0001)).map (fun t => (t.x16 .ax, six t)) =
    some (0xFFFF, [1, 1, 1, 0, 1, 0]) := by decide

theorem test_mul_byte : (after [0xF6, 0xE3] (fun s => ((s).setX16 .ax 0x00FF).setX16 .bx 0x00FF)).map (fun t => (t.x16 .ax, six t)) =
    some (0xFE01, [1, 0, 0, 0, 1, 1]) := by decide

theorem test_mul_word : (after [0xF7, 0xE3] (fun s => ((s).setX16 .ax 0xFFFF).setX16 .bx 0xFFFF)).map (fun t => (t.x16 .ax, t.x16 .dx, six t)) =
    some (0x0001, 0xFFFE, [1, 0, 0, 0, 1, 1]) := by decide

theorem test_imul_byte : (after [0xF6, 0xE9] (fun s => ((s).setX16 .ax 0x00FF).setX16 .cx 0x0002)).map (fun t => (t.x16 .ax, six t)) =
    some (0xFFFE, [0, 0, 0, 0, 1, 0]) := by decide

theorem test_imul_word : (after [0xF7, 0xEB] (fun s => ((s).setX16 .ax 0x8000).setX16 .bx 0xFFFF)).map (fun t => (t.x16 .ax, t.x16 .dx, six t)) =
    some (0x8000, 0x0000, [1, 1, 0, 0, 0, 1]) := by decide

theorem test_div_byte : (after [0xF6, 0xF3] (fun s => ((s).setX16 .ax 0x00FF).setX16 .bx 0x0010)).map (fun t => (t.x16 .ax, six t)) =
    some (0x0F0F, [0, 1, 0, 0, 0, 0]) := by decide

theorem test_div_word : (after [0xF7, 0xF3] (fun s => (((s).setX16 .dx 0x0001).setX16 .ax 0x0000).setX16 .bx 0x0002)).map (fun t => (t.x16 .ax, t.x16 .dx, six t)) =
    some (0x8000, 0x0000, [0, 1, 0, 0, 1, 0]) := by decide

theorem test_div_by_source_ah_faults : (after [0xF6, 0xF4] (fun s => (s).setX16 .ax 0x0264)).map (fun t => (t.status, t.faultKind, t.faultIp, t.faultOpcode, t.x16 .ax)) =
    some (.faulted, .divideFault, 0, 0xF6, 0x0264) := by decide

theorem test_idiv_truncates : (after [0xF7, 0xF9] (fun s => (((s).setX16 .dx 0xFFFF).setX16 .ax 0xFFF9).setX16 .cx 0x0002)).map (fun t => (t.x16 .ax, t.x16 .dx, six t)) =
    some (0xFFFD, 0xFFFF, [0, 0, 0, 0, 1, 0]) := by decide

theorem test_idiv_least_quotient : (after [0xF6, 0xFB] (fun s => ((s).setX16 .ax 0xFF00).setX16 .bx 0x0002)).map (fun t => (t.x16 .ax, six t)) =
    some (0x0080, [0, 0, 0, 0, 1, 0]) := by decide

theorem test_idiv_overflow_faults : (after [0xF6, 0xFB] (fun s => ((s).setX16 .ax 0xFF80).setX16 .bx 0x00FF)).map (fun t => (t.status, t.faultKind, t.faultIp, t.faultOpcode, t.x16 .ax)) =
    some (.faulted, .divideFault, 0, 0xF6, 0xFF80) := by decide

theorem test_and_sign_extended_imm8 : (after [0x83, 0xE0, 0xF0] (fun s => withCf ((s).setX16 .ax 0x1234))).map (fun t => (t.x16 .ax, six t)) =
    some (0x1230, [0, 1, 0, 0, 0, 0]) := by decide

theorem test_or_word : (after [0x81, 0xCB, 0x00, 0x80] (fun s => (s).setX16 .bx 0x0001)).map (fun t => (t.x16 .bx, six t)) =
    some (0x8001, [0, 0, 0, 0, 1, 0]) := by decide

theorem test_xor_self : (after [0x31, 0xC0] (fun s => withCf ((s).setX16 .ax 0x9999))).map (fun t => (t.x16 .ax, six t)) =
    some (0x0000, [0, 1, 0, 1, 0, 0]) := by decide

theorem test_test_writes_nothing : (after [0x85, 0xC3] (fun s => ((s).setX16 .ax 0x00F0).setX16 .bx 0x0F00)).map (fun t => (t.x16 .ax, t.x16 .bx, six t)) =
    some (0x00F0, 0x0F00, [0, 1, 0, 1, 0, 0]) := by decide

theorem test_not_keeps_flags : (after [0xF7, 0xD0] (fun s => withCf ((s).setX16 .ax 0x00FF))).map (fun t => (t.x16 .ax, six t)) =
    some (0xFF00, [1, 0, 0, 0, 0, 0]) := by decide

theorem test_mov_to_memory : (after [0x89, 0x40, 0x04] (fun s => (((s).setX16 .bx 0x0010).setX16 .si 0x0002).setX16 .ax 0xBEEF)).map (fun t => (t.mem.read 0x20016, t.mem.read 0x20017)) =
    some (0xEF, 0xBE) := by decide

theorem test_mov_ah_al : (after [0x8A, 0xE0] (fun s => (s).setX16 .ax 0x0012)).map (fun t => t.x16 .ax) =
    some 0x1212 := by decide

theorem test_mov_bp_form_uses_ds : (after [0xC6, 0x46, 0x02, 0x09] (fun s => (s).setX16 .bp 0x0100)).map (fun t => t.mem.read 0x20102) =
    some 0x09 := by decide

theorem test_mov_word_wraps_offset : (after [0xA3, 0xFF, 0xFF] (fun s => (s).setX16 .ax 0x1234)).map (fun t => (t.mem.read 0x2FFFF, t.mem.read 0x20000)) =
    some (0x34, 0x12) := by decide

theorem test_mov_ax_es : (after [0x8C, 0xC0] (id)).map (fun t => t.x16 .ax) =
    some 0x7000 := by decide

theorem test_mov_ds_ax : (after [0x8E, 0xD8] (fun s => (s).setX16 .ax 0x4011)).map (fun t => (t.sreg .ds, t.sreg .cs)) =
    some (0x4011, 0x3000) := by decide

theorem test_mov_al_moffs : (after [0xA0, 0x10, 0x00] (fun s => ((s).memWrite8 (s.sreg .ds) 0x0010 0x5A).setX16 .ax 0x3300)).map (fun t => t.x16 .ax) =
    some 0x335A := by decide

theorem test_mov_override_es : (after [0x26, 0xA0, 0x10, 0x00] (fun s => (s).setX16 .ax 0x3300)).map (fun t => (t.x16 .ax, t.archIp, t.segOverride)) =
    some (0x3300, 4, none) := by decide

theorem test_xchg_memory : (after [0x86, 0x07] (fun s => (((s).setX16 .ax 0x0011).setX16 .bx 0x0040).memWrite8 (s.sreg .ds) 0x0040 0x22)).map (fun t => (t.x16 .ax, t.memRead8 (t.sreg .ds) 0x0040)) =
    some (0x22, 0x11) := by decide

theorem test_xchg_ax_bx : (after [0x93] (fun s => ((s).setX16 .ax 0x0001).setX16 .bx 0x0002)).map (fun t => (t.x16 .ax, t.x16 .bx)) =
    some (2, 1) := by decide

theorem test_lea : (after [0x8D, 0x71, 0x10] (fun s => ((s).setX16 .bx 0x0100).setX16 .di 0x0020)).map (fun t => t.x16 .si) =
    some 0x0130 := by decide

theorem test_lea_wraps : (after [0x8D, 0x47, 0xFF] (id)).map (fun t => t.x16 .ax) =
    some 0xFFFF := by decide

theorem test_cbw : (after [0x98] (fun s => (s).setX16 .ax 0x1280)).map (fun t => t.x16 .ax) =
    some 0xFF80 := by decide

theorem test_cwd : (after [0x99] (fun s => ((s).setX16 .ax 0x8000).setX16 .dx 0x1234)).map (fun t => (t.x16 .dx, t.x16 .ax)) =
    some (0xFFFF, 0x8000) := by decide

theorem test_sahf : (after [0x9E] (fun s => (s).setX16 .ax 0xFF00)).map (fun t => t.flags.word) =
    some 0xF0D7 := by decide

theorem test_lahf : (after [0x9F] (id)).map (fun t => t.x16 .ax) =
    some 0x0200 := by decide

theorem test_nop : (after [0x90] (id)).map (fun t => (t.archIp, t.regs, t.status)) =
    some (1, State.reset.regs, .running) := by decide

theorem test_push_ax : (after [0x50] (fun s => (s).setX16 .ax 0x1234)).map (fun t => (t.x16 .sp, t.mem.read 0x5FFFC, t.mem.read 0x5FFFD)) =
    some (0xFFFC, 0x34, 0x12) := by decide

theorem test_push_sp : (after [0xFF, 0xF4] (id)).map (fun t => (t.x16 .sp, t.memRead16 (t.sreg .ss) 0xFFFC)) =
    some (0xFFFC, 0xFFFC) := by decide

theorem test_push_at_sp_2 : (after [0x50] (fun s => ((s).setX16 .sp 0x0002).setX16 .ax 0xABCD)).map (fun t => (t.x16 .sp, t.memRead16 (t.sreg .ss) 0)) =
    some (0, 0xABCD) := by decide

theorem test_push_at_sp_1_faults : (after [0x50] (fun s => (s).setX16 .sp 0x0001)).map (fun t => (t.faultKind, t.faultOpcode, t.x16 .sp, t.archIp)) =
    some (.stackFault, 0x50, 1, 0) := by decide

theorem test_pop_at_reset_faults : (after [0x58] (id)).map (fun t => (t.status, t.faultKind, t.faultIp, t.faultOpcode, t.x16 .sp)) =
    some (.faulted, .stackFault, 0, 0x58, 0xFFFE) := by decide

theorem test_pop_to_ffff : (after [0x58] (fun s => (((s).setX16 .sp 0xFFFD).memWrite8 (s.sreg .ss) 0xFFFD 0x11).memWrite8 (s.sreg .ss) 0xFFFE 0x22)).map (fun t => (t.x16 .ax, t.x16 .sp)) =
    some (0x2211, 0xFFFF) := by decide

theorem test_pop_sp : (after [0x5C] (fun s => (((s).setX16 .sp 0xFFFC).memWrite8 (s.sreg .ss) 0xFFFC 0x34).memWrite8 (s.sreg .ss) 0xFFFD 0x12)).map (fun t => t.x16 .sp) =
    some 0x1234 := by decide

theorem test_pop_memory : (after [0x8F, 0x07] (fun s => ((((s).setX16 .bx 0x0050).setX16 .sp 0xFFFC).memWrite8 (s.sreg .ss) 0xFFFC 0x78).memWrite8 (s.sreg .ss) 0xFFFD 0x56)).map (fun t => (t.memRead16 (t.sreg .ds) 0x0050, t.x16 .sp)) =
    some (0x5678, 0xFFFE) := by decide

theorem test_push_ds : (after [0x1E] (id)).map (fun t => t.memRead16 (t.sreg .ss) 0xFFFC) =
    some 0x2000 := by decide

theorem test_pop_es : (after [0x07] (fun s => ((s).setX16 .sp 0xFFFC).memWrite8 (s.sreg .ss) 0xFFFD 0x60)).map (fun t => (t.sreg .es, t.x16 .sp)) =
    some (0x6000, 0xFFFE) := by decide

theorem test_pushf_at_reset : (after [0x9C] (id)).map (fun t => t.memRead16 (t.sreg .ss) 0xFFFC) =
    some 0xF002 := by decide

theorem test_popf_all : (after [0x9D] (fun s => (((s).setX16 .sp 0xFFFC).memWrite8 (s.sreg .ss) 0xFFFC 0xD5).memWrite8 (s.sreg .ss) 0xFFFD 0x0F)).map (fun t => (t.flags.word, t.x16 .sp)) =
    some (0xFFD7, 0xFFFE) := by decide

theorem test_jmp_short : (after [0xEB, 0x02, 0x90, 0x90, 0xF4] (id)).map (fun t => (t.archIp, t.queue)) =
    some (4, []) := by decide

theorem test_jmp_near : (after [0xE9, 0xFD, 0x0F] (id)).map (fun t => t.archIp) =
    some 0x1000 := by decide

theorem test_jmp_register : (after [0xFF, 0xE0] (fun s => (s).setX16 .ax 0x0010)).map (fun t => (t.archIp, t.queue, t.x16 .sp)) =
    some (0x10, [], 0xFFFE) := by decide

theorem test_call_near : (after [0xE8, 0x0D, 0x00] (id)).map (fun t => (t.x16 .sp, t.memRead16 (t.sreg .ss) 0xFFFC, t.archIp)) =
    some (0xFFFC, 3, 0x10) := by decide

theorem test_call_sp : (after [0xFF, 0xD4] (id)).map (fun t => (t.x16 .sp, t.archIp)) =
    some (0xFFFC, 0xFFFE) := by decide

theorem test_ret_imm : (after [0xC2, 0x04, 0x00] (fun s => ((s).setX16 .sp 0xFFF8).memWrite8 (s.sreg .ss) 0xFFF8 0x20)).map (fun t => (t.archIp, t.x16 .sp)) =
    some (0x20, 0xFFFE) := by decide

theorem test_ret_imm_faults : (after [0xC2, 0x04, 0x00] (fun s => (s).setX16 .sp 0xFFFA)).map (fun t => (t.faultKind, t.faultIp, t.x16 .sp)) =
    some (.stackFault, 0, 0xFFFA) := by decide

theorem test_loop_taken : (after [0xE2, 0xFE] (fun s => (s).setX16 .cx 0x0000)).map (fun t => (t.x16 .cx, t.archIp)) =
    some (0xFFFF, 0) := by decide

theorem test_loop_falls_through : (after [0xE2, 0xFE] (fun s => (s).setX16 .cx 0x0001)).map (fun t => (t.x16 .cx, t.archIp)) =
    some (0, 2) := by decide

theorem test_loope_z_clear : (after [0xE1, 0x05] (fun s => (s).setX16 .cx 0x0005)).map (fun t => (t.x16 .cx, t.archIp)) =
    some (4, 2) := by decide

theorem test_loopne_z_clear : (after [0xE0, 0x05] (fun s => (s).setX16 .cx 0x0005)).map (fun t => (t.x16 .cx, t.archIp)) =
    some (4, 7) := by decide

theorem test_jcxz : (after [0xE3, 0x02] (id)).map (fun t => (t.archIp, t.x16 .cx)) =
    some (4, 0) := by decide

theorem test_jb_backwards : (after [0x72, 0x80] (fun s => withCf s)).map (fun t => t.archIp) =
    some 0xFF82 := by decide

theorem test_je_not_taken_keeps_queue : (after [0x74, 0xFE, 0xF4] (id)).map (fun t => (t.archIp, t.queue)) =
    some (2, [0xF4]) := by decide

theorem test_ja_forward : (after [0x77, 0x7F] (id)).map (fun t => t.archIp) =
    some 0x0081 := by decide

theorem test_hlt : (after [0xF4] (id)).map (fun t => (t.status, t.haltReason, t.archIp)) =
    some (.halted, .hlt, 1) := by decide

theorem test_cmc : (after [0xF5] (fun s => withCf s)).map (fun t => t.flags.cf) =
    some false := by decide

theorem test_sti : (after [0xFB] (id)).map (fun t => t.flags.word) =
    some 0xF202 := by decide

theorem test_std : (after [0xFD] (id)).map (fun t => t.flags.word) =
    some 0xF402 := by decide

theorem test_invalid_opcode : (after [0x0F] (id)).map (fun t => (t.status, t.faultKind, t.faultIp, t.faultOpcode)) =
    some (.faulted, .invalidOpcode, 0, 0x0F) := by decide

theorem test_invalid_modrm : (after [0x8E, 0xC8] (id)).map (fun t => (t.faultKind, t.faultOpcode, t.sreg .cs)) =
    some (.invalidOpcode, 0x8E, 0x3000) := by decide

theorem test_second_prefix : (after [0x2E, 0x3E, 0x90] (id)).map (fun t => (t.faultKind, t.faultIp, t.faultOpcode)) =
    some (.invalidOpcode, 0, 0x3E) := by decide

theorem test_ignored_prefix : (after [0x26, 0x90] (id)).map (fun t => (t.status, t.archIp)) =
    some (.running, 2) := by decide

theorem test_end_of_program_mid_instruction : (after [0x8D] (id)).map (fun t => (t.status, t.haltReason, t.archIp, t.faultKind)) =
    some (.halted, .endOfProgram, 0, .none) := by decide

theorem test_queue_trace_first_step : (after [0xB8, 0x05, 0x00, 0x05, 0x03, 0x00, 0xF4] (id)).map (fun t => (t.queue, t.ip, t.archIp, t.x16 .ax)) =
    some ([0x05, 0x03, 0x00], 6, 3, 5) := by decide

/-- A step from reset with nothing placed ends the program: the empty image supplies no byte (log entry 1). -/
theorem test_step_from_reset : step State.reset = .next State.reset.endOfProgram := rfl

/-- withFetchWord places an instruction where the next step fetches. -/
theorem test_with_fetch_word : (match step (State.reset.withFetchWord 16 0xFEC0) with
    | .next t => some (t.x16 .ax, t.archIp)
    | _ => none) = some (0x0001, 2) := by decide

/-! ## A witness for every obligation that has hypotheses

Each is named after the obligation; where the obligation has several clauses, each clause has its state, at a boundary of
its range. -/

/-- A state with `bytes` at CS:0 inside the fetch window, LOADED, its queue empty. -/
def ready (bytes : List Byte) : State := loaded bytes id

theorem test_witness_DecodeInvertsEncode :
    Instr.wf (.movRm16Imm16 (.mem (.disp16 .bpDi 0xFFFF)) 0x8000) = true ∧ Instr.wf (.invalid 0xF3 none) = true ∧
    Instr.wf (.movSsDsRm16 .ds (.mem (.direct 0))) = true := by decide

theorem test_witness_EncodeInvertsDecode :
    decodeUnit [0x8B, 0x06, 0xFF, 0xFF, 0x90] = .ok (.movR16Rm16 .ax (.mem (.direct 0xFFFF))) [0x90] := by decide

theorem test_witness_PrefixedInstructionRoundTrip :
    Instr.wf (.movAlMoffs8 0xFFFF) = true ∧ Instr.segPrefix? (.movAlMoffs8 0xFFFF) = none := by decide

theorem test_witness_DecodedInstructionIsSelfDelimiting :
    decode [0x26, 0xC7, 0x80, 0x00, 0x01, 0x34, 0x12, 0x90] =
      .ok (some .prefixEs) (.movRm16Imm16 (.mem (.disp16 .bxSi 0x0100)) 0x1234) [0x90] ∧
    decode [0x90] = .ok none .nop [] := by decide

theorem test_witness_RejectedEncodingsRaiseInvalidOpcode :
    invalidOpcode 0x0F = true ∧ invalidOpcode 0xF3 = true ∧ forbiddenModrm 0x8C 0x20 = true ∧
    forbiddenModrm 0x8D 0xC0 = true ∧ forbiddenModrm 0xFF 0xFF = true ∧
    decode [0xFE, 0x0F] = .ok none (.decRm8 (.mem (.base .bx))) [] ∧
    isInvalid (.decRm8 (.mem (.base .bx))) = false := by decide

theorem test_witness_MemoryReadsAndTheUnreachableMemoryFault :
    1 ≤ State.reset.memSize ∧ (ready [0x90]).faultKind ≠ .memoryFault ∧ (after [0x90] id).isSome = true := by decide

theorem test_witness_MemoryWritesTouchOnlyTheirBytes :
    State.reset.memOk ∧ 1 ≤ State.reset.memSize ∧ State.reset.lin 0x2000 0xFFFF ≠ State.reset.lin 0x2000 (0xFFFF + 1) := by
  decide

theorem test_witness_AdditionResultAndFlags : (8 = 8 ∨ 8 = 16) ∧ (16 = 8 ∨ 16 = 16) := by decide

theorem test_witness_SubtractionResultAndFlags : (8 = 8 ∨ 8 = 16) ∧ (16 = 8 ∨ 16 = 16) := by decide

theorem test_witness_EffectiveAddressAndDataSegment :
    State.reset.segOverride = none ∧ ({ State.reset with segOverride := some .es } : State).segOverride = some .es := by
  decide

theorem test_witness_SegmentOverridePrefixes :
    memOperand (.addRm16R16 (.reg .ax) .bx) = false ∧ memOperand (.leaR16M .ax (.base .bx)) = false ∧
    memOperand (.pushRm16 (.reg .sp)) = false ∧ Instr.segPrefix? (.pushRm16 (.reg .sp)) = none := by decide

theorem test_witness_StepRunsDecodedInstruction :
    (ready [0x26, 0x8A, 0x07]).steps ∧
    decode (ready [0x26, 0x8A, 0x07]).beginStep.window =
      .ok ((some SegReg.es).map prefixOf) (.movR8Rm8 .al (.mem (.base .bx))) [] ∧
    (ready [0x90]).steps ∧ decode (ready [0x90]).beginStep.window = .ok ((none : Option SegReg).map prefixOf) .nop [] := by
  decide

/-- The invariant at a loaded program. -/
theorem inv_ready_add : (ready [0x05, 0x03, 0x00]).Inv where
  memory := by decide
  queue := by decide
  config := by decide
  status := by decide
  parked := by decide

theorem test_witness_StepRunsInstructionInMemory :
    (ready [0x05, 0x03, 0x00]).Inv ∧ (ready [0x05, 0x03, 0x00]).steps ∧ (ready [0x05, 0x03, 0x00]).QueueCoherent ∧
    Instr.wf (.addAxImm16 3) = true ∧ Instr.segPrefix? (.addAxImm16 3) = none ∧
    ∀ k, (h : k < (prefixBytes none ++ encode (.addAxImm16 3)).length) →
      (ready [0x05, 0x03, 0x00]).inWindow ((ready [0x05, 0x03, 0x00]).archIp + BitVec.ofNat 16 k) = true ∧
      (ready [0x05, 0x03, 0x00]).memRead8 ((ready [0x05, 0x03, 0x00]).sreg .cs)
        ((ready [0x05, 0x03, 0x00]).archIp + BitVec.ofNat 16 k) = (prefixBytes none ++ encode (.addAxImm16 3))[k] :=
  ⟨inv_ready_add, by decide, fun k h => absurd (show k < 0 from h) (Nat.not_lt_zero k), by decide, by decide, by decide⟩

/-- A tick that appends, a tick outside the window, and a top-up that the capacity stops inside the window. -/
theorem test_witness_TopUpFillsTheQueue :
    ((ready [0x90]).queue.length < (ready [0x90]).queueCap ∧ (ready [0x90]).codeLo ≤ (ready [0x90]).ip.toNat ∧
      (ready [0x90]).ip.toNat < (ready [0x90]).codeHi) ∧
    ¬((ready []).queue.length < (ready []).queueCap ∧ (ready []).codeLo ≤ (ready []).ip.toNat ∧
      (ready []).ip.toNat < (ready []).codeHi) ∧
    let s := { ready [0x90, 0xF4, 0x90] with queueCap := 2 }
    s.topUp.queue = [0x90, 0xF4] ∧ s.inWindow s.topUp.ip = true := by decide

theorem test_witness_FetchByteDeliversTheNextByte :
    1 ≤ (ready [0x90]).queueCap ∧ (ready [0x90]).topUp.queue = 0x90 :: [] ∧
    ((ready [0x90]).queue = [] ∧ (ready [0x90]).inWindow (ready [0x90]).ip = true) ∧
    ((ready []).queue = [] ∧ (ready []).inWindow (ready []).ip = false) ∧
    ((ready [0x90]).fetchByte.map Prod.fst) = some 0x90 := by decide

theorem test_witness_QueueStaysWithinCapacity :
    (load ⟨[0x90], 1, 0⟩ { } State.powerOn).2 = .ok ∧ (hostReset (ready [0x90])).2 = .ok ∧ (ready [0x90]).queueOk ∧
    (after [0x90] id).isSome = true ∧
    (ready (List.replicate 6 0x90)).topUp.queue.length = (ready (List.replicate 6 0x90)).topUp.queueCap := by decide

theorem test_witness_ExecuteKeepsOrEmptiesTheQueue :
    (∃ t, exec .nop (ready [0x90]).topUp = .next t ∧ t.queue = [0x90]) ∧
    (∃ t, exec (.jmpRel8 0) (ready [0x90]).topUp = .next t ∧ t.queue = []) ∧
    ∃ t, exec .popAx (ready [0x90]).topUp = .next t ∧ t.status = .faulted :=
  ⟨⟨_, rfl, by decide⟩, ⟨_, rfl, rfl⟩, ⟨_, rfl, by decide⟩⟩

theorem test_witness_StoppedMachineChangesNothing :
    ({ State.reset with status := .halted } : State).status = .halted ∧
    ((after [0x0F] id).map State.status) = some .faulted ∧ State.powerOn.status = .noImage := by decide

theorem test_witness_EndOfProgramHalts :
    (ready [0x8D]).steps ∧ decode (ready [0x8D]).beginStep.window = .endOfProgram ∧
    ((ready []).queue = [] ∧ (ready []).inWindow (ready []).ip = false) ∧
    (Instr.wf (.leaR16M .ax (.base .bx)) = true ∧ Instr.segPrefix? (.leaR16M .ax (.base .bx)) = none ∧
      1 < (prefixBytes none ++ encode (.leaR16M .ax (.base .bx))).length ∧
      (ready [0x8D]).beginStep.window = (prefixBytes none ++ encode (.leaR16M .ax (.base .bx))).take 1) := by decide

/-- Three steps that fault, one of each kind: the hypotheses of the four statements about faults. -/
theorem fault_steps :
    ((ready [0x0F]).steps ∧ (after [0x0F] id).map (fun t => (t.status, t.faultKind)) = some (.faulted, .invalidOpcode)) ∧
    ((ready [0x58]).steps ∧ (after [0x58] id).map (fun t => (t.status, t.faultKind)) = some (.faulted, .stackFault)) ∧
    ((ready [0xF7, 0xF3]).steps ∧
      (after [0xF7, 0xF3] id).map (fun t => (t.status, t.faultKind)) = some (.faulted, .divideFault)) := by decide

theorem test_witness_FaultsArePrecise :
    ∃ s t, State.steps s ∧ step s = .next t ∧ t.status = .faulted :=
  ⟨ready [0x58], (after [0x58] id).getD State.reset, by decide, rfl, by decide⟩

theorem test_witness_FaultRecordNamesTheInstruction :
    ∃ s t, State.steps s ∧ step s = .next t ∧ t.status = .faulted :=
  ⟨ready [0x2E, 0x3E, 0x90], (after [0x2E, 0x3E, 0x90] id).getD State.reset, by decide, rfl, by decide⟩

/-- DIV by 0, POP at the first SP that faults and at the last that does not, a second prefix, and the program's end. -/
theorem test_witness_FaultKindsAndTheirCauses :
    (∃ s t, State.steps s ∧ step s = .next t ∧ t.status = .faulted ∧
      decode s.beginStep.window = .ok none (.divRm16 (.reg .bx)) [] ∧
      FaultCause (.divRm16 (.reg .bx)) { s with segOverride := none } .divideFault) ∧
    FaultCause .popAx (State.reset.setX16 .sp 0xFFFE) .stackFault ∧
    (∀ k, ¬FaultCause .popAx (State.reset.setX16 .sp 0xFFFD) k) ∧
    Rejected (some .prefixCs) 0x3E none ∧
    ∃ s t, State.steps s ∧ step s = .next t ∧ decode s.beginStep.window = .endOfProgram :=
  ⟨⟨ready [0xF7, 0xF3], (after [0xF7, 0xF3] id).getD State.reset, by decide, rfl, by decide, by decide, rfl, .inl rfl⟩,
    ⟨rfl, by decide⟩, fun _ h => absurd h.2 (by decide), .inr ⟨rfl, rfl, .ds, rfl⟩,
    ready [0x8D], (after [0x8D] id).getD State.reset, by decide, rfl, by decide⟩

theorem test_witness_EveryStepKeepsTheInvariant : ∃ s t, State.Inv s ∧ step s = .next t ∧ t.x16 .ax = 3 :=
  ⟨ready [0x05, 0x03, 0x00], (after [0x05, 0x03, 0x00] id).getD State.reset, inv_ready_add, rfl, by decide⟩

theorem test_witness_StepsNeverWriteCsOrConfiguration : ∃ s t, step s = .next t ∧ t.sreg .ds = 0 :=
  ⟨ready [0x8E, 0xD8], (after [0x8E, 0xD8] id).getD State.reset, rfl, by decide⟩

theorem test_witness_StoredFlagsAreInert :
    (∃ t, exec .sti State.reset = .next t ∧ t.flags.ief ≠ State.reset.flags.ief) ∧
    (∃ t, exec .std State.reset = .next t ∧ t.flags.df ≠ State.reset.flags.df) ∧
    (∃ t, exec .popf ((State.reset.setX16 .sp 0xFFFC).memWrite8 0x5000 0xFFFD 0x01) = .next t ∧
      t.flags.tf ≠ State.reset.flags.tf) ∧
    Instr.cbw ≠ .pushf ∧
    SameButStoredFlags State.reset { State.reset with flags := { State.reset.flags with tf := true } } :=
  ⟨⟨_, rfl, by decide⟩, ⟨_, rfl, by decide⟩, ⟨_, rfl, by decide⟩, by decide, ⟨true, false, false, rfl⟩⟩

theorem test_witness_StackIsLastInFirstOut :
    2 * [0x1111, (0x2222 : Word)].length ≤ (State.reset.x16 .sp).toNat ∧
    2 * [0x1111, (0x2222 : Word)].length ≤ State.reset.memSize ∧
    ((pushWords [0x1111, 0x2222] State.reset).bind (popWords 2)).map (fun r => (r.1, r.2.x16 .sp)) =
      some ([0x2222, 0x1111], 0xFFFE) := by decide

theorem test_witness_LoadEstablishesTheResetState :
    validLoad ⟨[0x90, 0xF4], 2, 0xFFFE⟩ { } ∧ ¬validLoad ⟨[0x90, 0xF4], 2, 0xFFFF⟩ { } ∧
    ¬validLoad Image.empty { queueCap := 0 } ∧
    (load ⟨[0x90, 0xF4], 2, 0xFFFE⟩ { } State.powerOn).1.mem.read 0x3FFFF = 0xF4 := by decide

theorem test_witness_ResetReloadsTheStoredImage :
    (load ⟨[0x90], 1, 0⟩ { } State.powerOn).2 = .ok ∧
    SameConfig (ready [0x90]) ((after [0x90] id).getD State.reset) ∧
    ((after [0x90] id).getD State.reset).status ≠ .noImage ∧ State.powerOn.status = .noImage := by decide

theorem test_witness_DivDividesOrFaults :
    let s := (State.reset.setX16 .ax 0x00FF).setX16 .bx 0x0001
    ((s.rdRm8 (.reg .bl)).toNat ≠ 0 ∧ (s.x16 .ax).toNat / (s.rdRm8 (.reg .bl)).toNat ≤ 0xFF) ∧
    (s.rdRm8 (.reg .cl)).toNat = 0 ∧
    (let u := s.setX16 .ax 0x0100;
      0xFF < (u.x16 .ax).toNat / (u.rdRm8 (.reg .bl)).toNat) ∧
    ((s.rdRm16 (.reg .bx)).toNat ≠ 0 ∧
      ((s.x16 .dx).toNat * 65536 + (s.x16 .ax).toNat) / (s.rdRm16 (.reg .bx)).toNat ≤ 0xFFFF) ∧
    let u := s.setX16 .dx 1;
    0xFFFF < ((u.x16 .dx).toNat * 65536 + (u.x16 .ax).toNat) / (u.rdRm16 (.reg .bx)).toNat := by decide

theorem test_witness_IdivDividesOrFaults :
    let s := (State.reset.setX16 .ax 0xFF80).setX16 .bx 0x00FF
    let u := s.setX8 .bl 1;
    ((u.rdRm8 (.reg .bl)).toInt ≠ 0 ∧ -0x80 ≤ ((u.x16 .ax).toInt).tdiv (u.rdRm8 (.reg .bl)).toInt ∧
      ((u.x16 .ax).toInt).tdiv (u.rdRm8 (.reg .bl)).toInt ≤ 0x7F) ∧
    0x7F < ((s.x16 .ax).toInt).tdiv (s.rdRm8 (.reg .bl)).toInt ∧ (s.rdRm8 (.reg .cl)).toInt = 0 ∧
    (let v := u.setX16 .ax 0x7FFF;
      (v.rdRm16 (.reg .bx)).toInt ≠ 0 ∧
      -0x8000 ≤ ((v.x16 .dx).toInt * 65536 + (v.x16 .ax).toNat).tdiv (v.rdRm16 (.reg .bx)).toInt ∧
      ((v.x16 .dx).toInt * 65536 + (v.x16 .ax).toNat).tdiv (v.rdRm16 (.reg .bx)).toInt ≤ 0x7FFF) ∧
    0x7FFF < ((u.x16 .dx).toInt * 65536 + (u.x16 .ax).toNat).tdiv (u.rdRm16 (.reg .bx)).toInt := by decide

theorem test_witness_XchgSwaps :
    (Rm.reg Reg8.ah : Rm8) = .reg .ah ∧ (Rm.mem (.base .bx) : Rm16) = .mem (.base .bx) ∧ Reg16.sp ≠ .ax := by decide

theorem test_witness_PushMovesSpAndStores :
    2 ≤ ((State.reset.setX16 .sp 2).x16 .sp).toNat ∧ 2 ≤ (State.reset.x16 .sp).toNat := by decide

theorem test_witness_PopLoadsAndMovesSp :
    ((State.reset.setX16 .sp 0xFFFD).x16 .sp).toNat + 2 ≤ 0xFFFF ∧ ((State.reset.setX16 .sp 0).x16 .sp).toNat + 2 ≤ 0xFFFF := by
  decide

theorem test_witness_StackFaultBounds :
    ((State.reset.setX16 .sp 1).x16 .sp).toNat < 2 ∧ ¬((State.reset.setX16 .sp 2).x16 .sp).toNat < 2 ∧
    0xFFFE ≤ (State.reset.x16 .sp).toNat ∧ ¬0xFFFE ≤ ((State.reset.setX16 .sp 0xFFFD).x16 .sp).toNat ∧
    0xFFFF < ((State.reset.setX16 .sp 0xFFFA).x16 .sp).toNat + 2 + (4 : Word).toNat ∧
    ¬0xFFFF < ((State.reset.setX16 .sp 0xFFF9).x16 .sp).toNat + 2 + (4 : Word).toNat := by decide

theorem test_witness_JumpsOnOverflowCarryZero :
    let s := withCf State.reset
    State.reset.flags.ovf = false ∧ s.flags.cf = true ∧ State.reset.flags.cf = false ∧ State.reset.flags.zf = false ∧
    ({ State.reset.flags with ovf := true } : Flags).ovf = true ∧ ({ State.reset.flags with zf := true } : Flags).zf = true := by
  decide

theorem test_witness_JumpsOnSignParityOrder :
    State.reset.flags.sf = State.reset.flags.ovf ∧ State.reset.flags.pf = false ∧
    ({ State.reset.flags with sf := true } : Flags).sf ≠ ({ State.reset.flags with sf := true } : Flags).ovf ∧
    ({ State.reset.flags with pf := true } : Flags).pf = true := by decide

theorem test_witness_LoopsAndJcxz :
    (State.reset.x16 .cx - 1 ≠ 0 ∧ True) ∧ ¬((State.reset.setX16 .cx 1).x16 .cx - 1 ≠ 0 ∧ True) ∧
    State.reset.flags.zf = false ∧ State.reset.x16 .cx = 0 := by decide

theorem test_witness_CallPushesReturnOffset :
    2 ≤ ((State.reset.setX16 .sp 2).x16 .sp).toNat ∧ ((State.reset.setX16 .sp 1).x16 .sp).toNat < 2 := by decide

theorem test_witness_RetPopsReturnOffset :
    ((State.reset.setX16 .sp 0xFFFD).x16 .sp).toNat + 2 ≤ 0xFFFF ∧ 0xFFFF < (State.reset.x16 .sp).toNat + 2 ∧
    ((State.reset.setX16 .sp 0xFFF9).x16 .sp).toNat + 2 + (4 : Word).toNat ≤ 0xFFFF ∧
    0xFFFF < ((State.reset.setX16 .sp 0xFFFA).x16 .sp).toNat + 2 + (4 : Word).toNat := by decide

theorem test_witness_HostReadsHowTheProgramEnded :
    (∃ s t, State.steps s ∧ step s = .next t ∧ decode s.beginStep.window = .ok (some .prefixEs) .hlt []) ∧
    (∃ s t, State.steps s ∧ step s = .next t ∧ decode s.beginStep.window = .endOfProgram) ∧
    State.powerOn.status = .noImage :=
  ⟨⟨ready [0x26, 0xF4], (after [0x26, 0xF4] id).getD State.reset, by decide, rfl, by decide⟩,
    ⟨ready [0x8D], (after [0x8D] id).getD State.reset, by decide, rfl, by decide⟩, rfl⟩

end Sys2Proof.Machine
end

section
/-! PROOFS. What the decoder answers is executable: it is well-formed, or the constructor of the rejected encodings. -/

namespace Sys2Proof

@[simp] theorem rm8_wf (ea : RawEa) : ea.rm8.wf = ea.wf := by cases ea <;> rfl

@[simp] theorem rm16_wf (ea : RawEa) : ea.rm16.wf = ea.wf := by cases ea <;> rfl

/-- `BP` alone is the rm field 6 and no other (30_encoding.md R125). -/
theorem eaBase_ofNum_ne_bp {n : BitVec 3} (h : n ≠ 6) : EaBase.ofNum n ≠ .bp := by
  revert n; decide

/-- The r/m operand that is read has an encoding: mod 00 with rm 110 is the direct address (30_encoding.md R123). -/
theorem readEa_wf {m : ModRM} {bs rest : List Byte} {ea : RawEa} (h : readEa m bs = some (ea, rest)) : ea.wf = true := by
  revert h
  fun_cases readEa m bs <;> rintro ⟨⟩
  case case3 hrm => simp [Rm.wf, MemRef.wf, eaBase_ofNum_ne_bp hrm]
  all_goals rfl

/-! ## The opcode map, row by row -/

/-- A ModRM entry makes well-formed instructions of well-formed operands. -/
def ModEntry.MakesWf : ModEntry → Prop
  | .forbidden => True
  | .plain f => ∀ ea : RawEa, ea.wf = true → (f ea).wf = true
  | .mem f => ∀ m : MemRef, m.wf = true → (f m).wf = true
  | .imm8 f => ∀ (ea : RawEa) (v : Byte), ea.wf = true → (f ea v).wf = true
  | .imm16 f => ∀ (ea : RawEa) (v : Word), ea.wf = true → (f ea v).wf = true

/-- An opcode entry makes well-formed instructions. -/
def Entry.MakesWf : Entry → Prop
  | .invalid => True
  | .op i => i.wf = true
  | .imm8 f => ∀ v : Byte, (f v).wf = true
  | .imm16 f => ∀ v : Word, (f v).wf = true
  | .modrm f => ∀ m : ModRM, (f m).MakesWf

theorem plain8_makesWf {f : Rm8 → Instr} (hf : ∀ rm, (f rm).wf = rm.wf) : (ModEntry.plain fun ea => f ea.rm8).MakesWf :=
  fun ea h => (hf _).trans ((rm8_wf ea).trans h)

theorem plain16_makesWf {f : Rm16 → Instr} (hf : ∀ rm, (f rm).wf = rm.wf) :
    (ModEntry.plain fun ea => f ea.rm16).MakesWf := fun ea h => (hf _).trans ((rm16_wf ea).trans h)

theorem rmReg8_makesWf {f : Rm8 → Reg8 → Instr} (hf : ∀ rm r, (f rm r).wf = rm.wf) : (Entry.modrm (rmReg8 f)).MakesWf :=
  fun _ => plain8_makesWf fun rm => hf rm _

theorem regRm8_makesWf {f : Reg8 → Rm8 → Instr} (hf : ∀ r rm, (f r rm).wf = rm.wf) : (Entry.modrm (regRm8 f)).MakesWf :=
  fun _ => plain8_makesWf (hf _)

theorem rmReg16_makesWf {f : Rm16 → Reg16 → Instr} (hf : ∀ rm r, (f rm r).wf = rm.wf) :
    (Entry.modrm (rmReg16 f)).MakesWf := fun _ => plain16_makesWf fun rm => hf rm _

theorem regRm16_makesWf {f : Reg16 → Rm16 → Instr} (hf : ∀ r rm, (f r rm).wf = rm.wf) :
    (Entry.modrm (regRm16 f)).MakesWf := fun _ => plain16_makesWf (hf _)

theorem group80_makesWf (m : ModRM) : (group80 m).MakesWf := by
  fun_cases group80 m <;> exact fun ea _ h => (rm8_wf ea).trans h

theorem group81_makesWf (m : ModRM) : (group81 m).MakesWf := by
  fun_cases group81 m <;> exact fun ea _ h => (rm16_wf ea).trans h

theorem group83_makesWf (m : ModRM) : (group83 m).MakesWf := by
  fun_cases group83 m <;> exact fun ea _ h => (rm16_wf ea).trans h

theorem group8C_makesWf (m : ModRM) : (group8C m).MakesWf := by
  fun_cases group8C m
  case case1 sr _ => exact plain16_makesWf (f := (.movRm16Sreg · sr)) fun _ => rfl
  case case2 => trivial

/-- MOV to a segment register names ES, SS or DS, never CS (30_encoding.md R144). -/
theorem group8E_makesWf (m : ModRM) : (group8E m).MakesWf := by
  fun_cases group8E m
  case case4 => trivial
  all_goals exact plain16_makesWf fun _ => rfl

theorem group8F_makesWf (m : ModRM) : (group8F m).MakesWf := by
  fun_cases group8F m
  · exact plain16_makesWf fun _ => rfl
  · trivial

theorem groupC6_makesWf (m : ModRM) : (groupC6 m).MakesWf := by
  fun_cases groupC6 m
  · exact fun ea _ h => (rm8_wf ea).trans h
  · trivial

theorem groupC7_makesWf (m : ModRM) : (groupC7 m).MakesWf := by
  fun_cases groupC7 m
  · exact fun ea _ h => (rm16_wf ea).trans h
  · trivial

theorem groupF6_makesWf (m : ModRM) : (groupF6 m).MakesWf := by
  fun_cases groupF6 m
  case case1 => exact fun ea _ h => (rm8_wf ea).trans h
  case case8 => trivial
  all_goals exact plain8_makesWf fun _ => rfl

theorem groupF7_makesWf (m : ModRM) : (groupF7 m).MakesWf := by
  fun_cases groupF7 m
  case case1 => exact fun ea _ h => (rm16_wf ea).trans h
  case case8 => trivial
  all_goals exact plain16_makesWf fun _ => rfl

theorem groupFE_makesWf (m : ModRM) : (groupFE m).MakesWf := by
  fun_cases groupFE m
  case case3 => trivial
  all_goals exact plain8_makesWf fun _ => rfl

theorem groupFF_makesWf (m : ModRM) : (groupFF m).MakesWf := by
  fun_cases groupFF m
  case case6 => trivial
  all_goals exact plain16_makesWf fun _ => rfl

theorem opcodeRow0_makesWf (n : Nat) : (opcodeRow0 n).MakesWf := by
  fun_cases opcodeRow0 n
  case case1 | case9 => exact rmReg8_makesWf fun _ _ => rfl
  case case2 | case10 => exact rmReg16_makesWf fun _ _ => rfl
  case case3 | case11 => exact regRm8_makesWf fun _ _ => rfl
  case case4 | case12 => exact regRm16_makesWf fun _ _ => rfl
  case case5 | case6 | case13 | case14 => exact fun _ => rfl
  case case7 | case8 | case15 => rfl
  case case16 => trivial

theorem opcodeRow1_makesWf (n : Nat) : (opcodeRow1 n).MakesWf := by
  fun_cases opcodeRow1 n
  case case1 | case9 => exact rmReg8_makesWf fun _ _ => rfl
  case case2 | case10 => exact rmReg16_makesWf fun _ _ => rfl
  case case3 | case11 => exact regRm8_makesWf fun _ _ => rfl
  case case4 | case12 => exact regRm16_makesWf fun _ _ => rfl
  case case5 | case6 | case13 | case14 => exact fun _ => rfl
  case case7 | case8 | case15 | case16 => rfl

theorem opcodeRow2_makesWf (n : Nat) : (opcodeRow2 n).MakesWf := by
  fun_cases opcodeRow2 n
  case case1 | case8 => exact rmReg8_makesWf fun _ _ => rfl
  case case2 | case9 => exact rmReg16_makesWf fun _ _ => rfl
  case case3 | case10 => exact regRm8_makesWf fun _ _ => rfl
  case case4 | case11 => exact regRm16_makesWf fun _ _ => rfl
  case case5 | case6 | case12 | case13 => exact fun _ => rfl
  case case7 | case14 => rfl
  case case15 => trivial

theorem opcodeRow3_makesWf (n : Nat) : (opcodeRow3 n).MakesWf := by
  fun_cases opcodeRow3 n
  case case1 | case8 => exact rmReg8_makesWf fun _ _ => rfl
  case case2 | case9 => exact rmReg16_makesWf fun _ _ => rfl
  case case3 | case10 => exact regRm8_makesWf fun _ _ => rfl
  case case4 | case11 => exact regRm16_makesWf fun _ _ => rfl
  case case5 | case6 | case12 | case13 => exact fun _ => rfl
  case case7 | case14 => rfl
  case case15 => trivial

theorem opcodeRow4_makesWf (n : Nat) : (opcodeRow4 n).MakesWf := by fun_cases opcodeRow4 n <;> rfl

theorem opcodeRow5_makesWf (n : Nat) : (opcodeRow5 n).MakesWf := by fun_cases opcodeRow5 n <;> rfl

theorem opcodeRow7_makesWf (n : Nat) : (opcodeRow7 n).MakesWf := by fun_cases opcodeRow7 n <;> exact fun _ => rfl

theorem opcodeRow8_makesWf (n : Nat) : (opcodeRow8 n).MakesWf := by
  fun_cases opcodeRow8 n
  case case1 => exact group80_makesWf
  case case2 => exact group81_makesWf
  case case3 => exact group83_makesWf
  case case4 | case6 | case8 => exact rmReg8_makesWf fun _ _ => rfl
  case case5 | case7 | case9 => exact rmReg16_makesWf fun _ _ => rfl
  case case10 => exact regRm8_makesWf fun _ _ => rfl
  case case11 => exact regRm16_makesWf fun _ _ => rfl
  case case12 => exact group8C_makesWf
  case case13 => exact fun _ _ h => h
  case case14 => exact group8E_makesWf
  case case15 => exact group8F_makesWf
  case case16 => trivial

theorem opcodeRow9_makesWf (n : Nat) : (opcodeRow9 n).MakesWf := by
  fun_cases opcodeRow9 n
  case case15 => trivial
  all_goals rfl

theorem opcodeRowA_makesWf (n : Nat) : (opcodeRowA n).MakesWf := by
  fun_cases opcodeRowA n
  case case7 => trivial
  all_goals exact fun _ => rfl

theorem opcodeRowB_makesWf (n : Nat) : (opcodeRowB n).MakesWf := by fun_cases opcodeRowB n <;> exact fun _ => rfl

theorem opcodeRowC_makesWf (n : Nat) : (opcodeRowC n).MakesWf := by
  fun_cases opcodeRowC n
  case case1 => exact fun _ => rfl
  case case2 => rfl
  case case3 => exact groupC6_makesWf
  case case4 => exact groupC7_makesWf
  case case5 => trivial

theorem opcodeRowE_makesWf (n : Nat) : (opcodeRowE n).MakesWf := by
  fun_cases opcodeRowE n
  case case8 => trivial
  all_goals exact fun _ => rfl

theorem opcodeRowF_makesWf (n : Nat) : (opcodeRowF n).MakesWf := by
  fun_cases opcodeRowF n
  case case3 => exact groupF6_makesWf
  case case4 => exact groupF7_makesWf
  case case11 => exact groupFE_makesWf
  case case12 => exact groupFF_makesWf
  case case13 => trivial
  all_goals rfl

theorem opcodeEntry_makesWf {opc : Byte} {e : Entry} (h : opcodeEntry opc = e) : e.MakesWf := by
  subst h
  fun_cases opcodeEntry opc
  · exact opcodeRow0_makesWf _
  · exact opcodeRow1_makesWf _
  · exact opcodeRow2_makesWf _
  · exact opcodeRow3_makesWf _
  · exact opcodeRow4_makesWf _
  · exact opcodeRow5_makesWf _
  · trivial
  · exact opcodeRow7_makesWf _
  · exact opcodeRow8_makesWf _
  · exact opcodeRow9_makesWf _
  · exact opcodeRowA_makesWf _
  · exact opcodeRowB_makesWf _
  · exact opcodeRowC_makesWf _
  · trivial
  · exact opcodeRowE_makesWf _
  · exact opcodeRowF_makesWf _

/-! ## The decoder -/

/-- A well-formed term, or the constructor of the rejected encodings, whose meaning does not look at the encoding. -/
abbrev Instr.Executable (i : Instr) : Prop := i.wf = true ∨ Machine.isInvalid i = true

theorem decodeModrm_executable {opc m : Byte} {e : ModEntry} {bs rest : List Byte} {i : Instr} (he : e.MakesWf)
    (h : decodeModrm opc m e bs = .ok i rest) : i.Executable := by
  revert h
  fun_cases decodeModrm opc m e bs <;> rintro ⟨⟩
  case case1 => exact .inr rfl
  case case2 hea => exact .inl (he _ (readEa_wf hea))
  case case4 hea => exact .inl (he _ (readEa_wf hea))
  case case5 => exact .inr rfl
  case case7 hea => exact .inl (he _ _ (readEa_wf hea))
  case case9 hea => exact .inl (he _ _ (readEa_wf hea))

theorem decodeUnit_executable {bs rest : List Byte} {i : Instr} (h : decodeUnit bs = .ok i rest) : i.Executable := by
  revert h
  fun_cases decodeUnit bs
  case case2 => rintro ⟨⟩; exact .inr rfl
  case case3 he => rintro ⟨⟩; exact .inl (opcodeEntry_makesWf he)
  case case4 he _ _ => rintro ⟨⟩; exact .inl (opcodeEntry_makesWf he _)
  case case6 he _ _ _ => rintro ⟨⟩; exact .inl (opcodeEntry_makesWf he _)
  case case8 he _ _ => exact decodeModrm_executable (opcodeEntry_makesWf he _)
  all_goals rintro ⟨⟩

theorem exists_prefixOf {p : Instr} (h : ¬p.segPrefix?.isNone = true) : ∃ r, p = Machine.prefixOf r := by
  revert h
  fun_cases Instr.segPrefix? p
  case case1 => exact fun _ => ⟨.es, rfl⟩
  case case2 => exact fun _ => ⟨.cs, rfl⟩
  case case3 => exact fun _ => ⟨.ss, rfl⟩
  case case4 => exact fun _ => ⟨.ds, rfl⟩
  case case5 => exact fun h => absurd rfl h

/-- What the decoder answers: at most one segment override, and an executable instruction (30_encoding.md R131). -/
theorem decode_ok {bs rest : List Byte} {pre : Option Instr} {i : Instr} (h : decode bs = .ok pre i rest) :
    i.Executable ∧ ∃ o : Option SegReg, pre = o.map Machine.prefixOf := by
  unfold decode at h
  split at h
  · cases h
  · rename_i p rest' hp
    split at h
    · cases h
      exact ⟨decodeUnit_executable hp, none, rfl⟩
    · rename_i hpre
      obtain ⟨r, rfl⟩ := exists_prefixOf hpre
      split at h
      · cases h
      · split at h
        · cases h
        · rename_i hi
          split at h <;> cases h
          · exact ⟨decodeUnit_executable hi, some r, rfl⟩
          · exact ⟨.inr rfl, some r, rfl⟩

end Sys2Proof
end

section
/-! PROOFS. The byte registers and the FLAGS word. -/

namespace Sys2Proof.Machine

/-! ## The byte registers -/

/-- Settles O7: each byte register is read as its half, and a write to it is the read-over-write law of the registers. -/
theorem byteRegistersAliasWordRegisters : Obligations.ByteRegistersAliasWordRegisters :=
  fun s => ⟨⟨rfl, rfl, rfl, rfl, rfl, rfl, rfl, rfl⟩, reg8Written_setX8 s⟩

/-! ## The FLAGS word -/

theorem flagBit_false (k : Nat) : flagBit false k = 0#16 := by simp [flagBit]

theorem flagBit_true (k : Nat) : flagBit true k = BitVec.twoPow 16 k := by simp [flagBit, BitVec.twoPow]

/-- One flag bit is that flag at its own place and 0 elsewhere. -/
@[simp] theorem getElem_flagBit (b : Bool) (k : Nat) {i : Nat} (hi : i < 16) :
    (flagBit b k)[i] = (b && decide (i = k)) := by
  cases b with
  | false => simp [flagBit_false]
  | true => simp [flagBit_true, eq_comm]

/-- Setting a bit that is clear adds its weight. -/
theorem toNat_or_flagBit {v : Word} {b : Bool} {k : Nat} (hk : k < 16) (hv : v[k] = false) :
    (v ||| flagBit b k).toNat = v.toNat + b.toNat * 2 ^ k := by
  cases b with
  | false => simp [flagBit_false]
  | true =>
    have hclear : v &&& BitVec.twoPow 16 k = 0#16 := by simp [BitVec.and_twoPow, hv, hk]
    have hweight : (BitVec.twoPow 16 k).toNat = 2 ^ k := by simp [BitVec.toNat_twoPow_of_lt hk]
    rw [flagBit_true, ← BitVec.add_eq_or_of_and_eq_zero _ _ hclear, BitVec.toNat_add_of_and_eq_zero hclear, hweight]
    simp

/-- The FLAGS word is the sum of its bits (10_state.md R41): each is set where all bits before it are clear. -/
theorem flags_word_toNat (f : Flags) : f.word.toNat = 0xF000 + f.ovf.toNat * 2048 + f.df.toNat * 1024 +
    f.ief.toNat * 512 + f.tf.toNat * 256 + f.sf.toNat * 128 + f.zf.toNat * 64 + f.af.toNat * 16 + f.pf.toNat * 4 + 2 +
    f.cf.toNat := by
  have hreserved : (0x0002 : Word) = flagBit true 1 := rfl
  unfold Flags.word
  rw [hreserved]
  repeat rw [toNat_or_flagBit (by decide) (by simp)]
  simp

/-- Writing a word and reading it back keeps the nine flag bits and fixes the reserved ones (10_state.md R41). -/
theorem flags_word_ofWord (v : Word) : (Flags.ofWord v).word = (v &&& 0x0FD5) ||| 0xF002 := by
  apply BitVec.eq_of_getLsbD_eq
  intro i hi
  interval_cases i <;> simp [Flags.word, Flags.ofWord]

/-- Each flag is read from the bit it is written to (10_state.md R41). -/
theorem flags_ofWord_word (f : Flags) : Flags.ofWord f.word = f := by
  simp [Flags.word, Flags.ofWord]

/-- Settles O10: the word is the sum of its bits, and both round trips go bit by bit. -/
theorem flagsWordLayout : Obligations.FlagsWordLayout :=
  ⟨flags_word_toNat, flags_word_ofWord, flags_ofWord_word, rfl⟩

end Sys2Proof.Machine
end

section
/-! PROOFS. No execute phase fetches: what an instruction does to the queue and the BIU IP. -/

namespace Sys2Proof.Machine

/-- A result that keeps the queue and the BIU IP, or empties the queue by a transfer, where `transfer` allows one, or by a
fault (40_step_and_queue.md R211, R215, R217). -/
def KeepsOrEmpties (transfer : Bool) (s : State) (r : Result) : Prop :=
  ∀ t, r = .next t → SameFetch s t ∨ t.queue = [] ∧ (transfer = true ∨ t.status = .faulted ∧ t.ip = s.instrStart)

section
variable {b : Bool} {s t : State}

theorem keepsOrEmpties_same (h : t.queue = s.queue ∧ t.ip = s.ip) : KeepsOrEmpties b s (.next t) := by
  rintro _ ⟨⟩
  exact .inl h

theorem keepsOrEmpties_raise (k : FaultKind) (opc : Byte) : KeepsOrEmpties b s (.next (s.raise k opc)) := by
  rintro _ ⟨⟩
  exact .inr ⟨rfl, .inr ⟨rfl, rfl⟩⟩

theorem keepsOrEmpties_jump (u : State) (w : Word) : KeepsOrEmpties true s (.next (u.jump w)) := by
  rintro _ ⟨⟩
  exact .inr ⟨rfl, .inl rfl⟩

theorem keepsOrEmpties_ite {c : Prop} [Decidable c] {r r' : Result} (h : KeepsOrEmpties b s r)
    (h' : KeepsOrEmpties b s r') : KeepsOrEmpties b s (if c then r else r') := by
  split
  · exact h
  · exact h'

/-- A conditional transfer from a state with the queue as it was. -/
theorem keepsOrEmpties_jumpIf (c : Bool) (rel : Byte) (h : t.queue = s.queue ∧ t.ip = s.ip) :
    KeepsOrEmpties true s (jumpIf c rel t) := by
  unfold jumpIf
  split
  · exact keepsOrEmpties_jump _ _
  · exact keepsOrEmpties_same h

end

/-- Every instruction, by what its meaning ends in: a stack check or a division check that may raise, a rejected encoding,
a transfer, or else writes to registers, flags and memory, which keep the queue. -/
theorem exec_keepsOrEmpties (i : Instr) (s : State) : KeepsOrEmpties (isTransfer i) s (exec i s) := by
  cases i
  case pushEs | pushCs | pushSs | pushDs | pushAx | pushCx | pushDx | pushBx | pushSp | pushBp | pushSi | pushDi
      | pushf | pushRm16 | popEs | popSs | popDs | popAx | popCx | popDx | popBx | popSp | popBp | popSi | popDi | popf
      | popRm16 =>
    exact keepsOrEmpties_ite (keepsOrEmpties_same (by simp)) (keepsOrEmpties_raise _ _)
  case divRm8 | divRm16 | idivRm8 | idivRm16 =>
    exact keepsOrEmpties_ite (keepsOrEmpties_raise _ _) (keepsOrEmpties_same (by simp))
  case invalid => exact keepsOrEmpties_raise _ _
  case joRel8 | jnoRel8 | jbRel8 | jaeRel8 | jeRel8 | jneRel8 | jbeRel8 | jaRel8 | jsRel8 | jnsRel8 | jpRel8 | jnpRel8
      | jlRel8 | jgeRel8 | jleRel8 | jgRel8 | jcxzRel8 | loopRel8 | loopeRel8 | loopneRel8 =>
    exact keepsOrEmpties_jumpIf _ _ (by simp)
  case jmpRel8 | jmpRel16 | jmpRm16 => exact keepsOrEmpties_jump _ _
  case callRel16 | callRm16 | ret | retImm16 =>
    exact keepsOrEmpties_ite (keepsOrEmpties_jump _ _) (keepsOrEmpties_raise _ _)
  all_goals exact keepsOrEmpties_same (by simp [State.wrRm8, State.wrRm16, State.setDxAx])

/-- Settles O20: the execute phase of every instruction keeps the queue or empties it. -/
theorem executeKeepsOrEmptiesTheQueue : Obligations.ExecuteKeepsOrEmptiesTheQueue := exec_keepsOrEmpties

end Sys2Proof.Machine
end

section
/-! PROOFS. What one step can do, said once. -/

namespace Sys2Proof.Machine

/-! ## The execute phase -/

/-- What the decoder answers executes as `exec_shape` says of a well-formed instruction; a rejected encoding raises
InvalidOpcode, whatever its bytes. -/
theorem exec_shape_of_executable {i : Instr} (hi : i.Executable) (s : State) : Shape (FaultCause i s) s (exec i s) := by
  rcases hi with hi | hi
  · exact exec_shape hi s
  · cases i with
    | invalid opc modrm => exact (shape_raise s _ _ : Shape _ s (execInvalid opc modrm s))
    | _ => cases hi

/-- What an instruction that the decoder answers has done: raised the fault it has cause for, or kept all that `Kept`
names. -/
theorem exec_cases {i : Instr} {u v : State} (hi : i.Executable) (h : exec i u = .next v) :
    (∃ k opc, FaultCause i u k ∧ v = u.raise k opc) ∨ Kept u v := by
  obtain ⟨v', hv, hf | ⟨hk, _⟩⟩ := exec_shape_of_executable hi u
  · cases h.symm.trans hv
    exact .inl hf
  · cases h.symm.trans hv
    exact .inr hk

/-- The override, if there is one, is set first, and the instruction runs from there (30_encoding.md R131). -/
theorem execInsn_map_prefixOf (o : Option SegReg) (i : Instr) {s : State} (hs : s.segOverride = none) :
    execInsn (o.map prefixOf) i s = exec i { s with segOverride := o } := by
  cases o with
  | none => cases s; cases hs; rfl
  | some r => cases r <;> rfl

/-! ## The step -/

/-- The state in which a step from `s` executes an instruction: status RUNNING, the transient decode state set with the
override `o`, and the queue and the BIU IP as fetching left them (40_step_and_queue.md R200, R214). -/
def State.executing (s : State) (o : Option SegReg) (q : List Byte) (p : Word) : State :=
  { s with status := .running, instrStart := s.archIp, segOverride := o, queue := q, ip := p }

/-- The fill phase changes the queue and the BIU IP only, and keeps the queue within its capacity. -/
theorem beginStep_eq_executing (s : State) :
    ∃ q p, s.beginStep = s.executing none q p ∧ (s.queueOk → q.length ≤ s.queueCap) := by
  have ht := fetchOnly_topUp { s with status := .running }
  have hq := queueOk_topUp (s := { s with status := .running })
  obtain ⟨q, p, ht⟩ : ∃ q p,
      State.topUp { s with status := .running } = { s with status := .running, queue := q, ip := p } := ⟨_, _, ht⟩
  refine ⟨q, p, ?_, fun h => ?_⟩
  · simp only [State.beginStep, archIp_topUp]
    rw [ht]
    rfl
  · rw [ht] at hq
    exact hq h

/-- Decode changes the queue and the BIU IP only, and keeps the queue within its capacity. -/
theorem consume_executing (n : Nat) (s : State) (o : Option SegReg) (q : List Byte) (p : Word) :
    ∃ q' p', (s.executing o q p).consume n = s.executing o q' p' ∧ (q.length ≤ s.queueCap → q'.length ≤ s.queueCap) := by
  have ht := fetchOnly_consume n (s.executing o q p)
  have hq := queueOk_consume (n := n) (s := s.executing o q p)
  refine ⟨_, _, ht, fun h => ?_⟩
  rw [State.queueOk, ht] at hq
  exact hq h

theorem finishStep_next {r : Result} {t : State} (h : finishStep r = .next t) : ∃ v, r = .next v ∧ t = v.endStep := by
  cases r with
  | next v => cases h; exact ⟨v, rfl, rfl⟩
  | fault _ => cases h
  | refused _ => cases h

/-- What a step from `s` that answers `t` has done (40_step_and_queue.md R200). -/
inductive StepEffect (s t : State) : Prop where
  /-- Nothing. -/
  | halted (status : s.status = .halted) (same : t = s)
  /-- The bytes have ended before an instruction did. -/
  | endOfProgram (steps : s.steps) (decoded : decode s.beginStep.window = .endOfProgram)
      (next : t = s.beginStep.endOfProgram.endStep)
  /-- The decoded instruction `i` has been executed, with the segment override `o`. -/
  | executed (steps : s.steps) (o : Option SegReg) (i : Instr) (rest : List Byte) (q : List Byte) (p : Word) (v : State)
      (decoded : decode s.beginStep.window = .ok (o.map prefixOf) i rest) (executable : i.Executable)
      (room : s.queueOk → q.length ≤ s.queueCap) (exec : exec i (s.executing o q p) = .next v) (next : t = v.endStep)

theorem stepEffect_of_stepRunning {s t : State} (hs : s.steps) (h : stepRunning s = .next t) : StepEffect s t := by
  unfold stepRunning at h
  cases hd : decode s.beginStep.window with
  | endOfProgram =>
    simp only [hd] at h
    obtain ⟨v, hv, rfl⟩ := finishStep_next h
    cases hv
    exact .endOfProgram hs hd rfl
  | ok pre i rest =>
    simp only [hd] at h
    obtain ⟨hi, o, rfl⟩ := decode_ok hd
    obtain ⟨v, hv, rfl⟩ := finishStep_next h
    obtain ⟨q, p, hb, hq⟩ := beginStep_eq_executing s
    obtain ⟨q', p', hc, hq'⟩ := consume_executing (s.beginStep.window.length - rest.length) s none q p
    rw [← hb] at hc
    rw [hc, execInsn_map_prefixOf o i rfl] at hv
    exact .executed hs o i rest q' p' v hd hi (fun h => hq' (hq h)) hv rfl

theorem stepEffect_of_step {s t : State} (h : step s = .next t) : StepEffect s t := by
  revert h
  fun_cases step s
  case case2 hs => rintro ⟨⟩; exact .halted hs rfl
  case case4 hs => exact stepEffect_of_stepRunning (.inl hs)
  case case5 hs => exact stepEffect_of_stepRunning (.inr hs)
  all_goals rintro ⟨⟩

/-! ## What no step writes -/

/-- No instruction writes CS or a configuration register (10_state.md R36, R56). -/
theorem exec_config {i : Instr} {u v : State} (hi : i.Executable) (h : exec i u = .next v) :
    v.segs.cs = u.segs.cs ∧ SameConfig u v := by
  rcases exec_cases hi h with ⟨k, opc, _, rfl⟩ | hk
  · exact ⟨rfl, SameConfig.refl u⟩
  · exact ⟨hk.cs, hk.config⟩

/-- No step writes CS or a configuration register (10_state.md R36, R56). -/
theorem StepEffect.config {s t : State} (h : StepEffect s t) : t.segs.cs = s.segs.cs ∧ SameConfig s t := by
  cases h with
  | halted _ same => rw [same]; exact ⟨rfl, SameConfig.refl s⟩
  | endOfProgram _ _ next =>
    obtain ⟨q, p, hb, _⟩ := beginStep_eq_executing s
    rw [next, hb]
    exact ⟨rfl, SameConfig.refl s⟩
  | executed _ o i _ q p v _ hi _ hv next =>
    have hc := exec_config hi hv
    rw [next]
    exact hc

/-- Settles O28: a step writes CS and the configuration as little as an instruction does. -/
theorem stepsNeverWriteCsOrConfiguration : Obligations.StepsNeverWriteCsOrConfiguration :=
  fun _ _ h => (stepEffect_of_step h).config

/-! ## The invariant -/

/-- In LOADED and RUNNING no fault is recorded and no halt reason held (10_state.md R54, R55). -/
theorem quiet_of_steps {s : State} (h : s.statusOk) (hs : s.steps) : s.faultKind = .none ∧ s.haltReason = .none := by
  obtain ⟨hf, hh, _, _⟩ := h
  have hnf : s.status ≠ .faulted := by rcases hs with hs | hs <;> simp [hs]
  have hnh : s.status ≠ .halted := by rcases hs with hs | hs <;> simp [hs]
  exact ⟨not_not.mp (mt hf.mpr hnf), not_not.mp (mt hh.mpr hnh)⟩

theorem configOk_of_same {s t : State} (hcs : t.segs.cs = s.segs.cs) (hc : SameConfig s t) (h : s.configOk) :
    t.configOk := by
  obtain ⟨hm, hq, hb, hl, hh, hi⟩ := hc
  simpa only [State.configOk, hm, hq, hb, hl, hh, hi, hcs] using h

theorem inv_endOfProgram {s : State} (h : s.Inv) (hs : s.steps) : s.beginStep.endOfProgram.endStep.Inv := by
  obtain ⟨q, p, hb, _⟩ := beginStep_eq_executing s
  obtain ⟨hf, _⟩ := quiet_of_steps h.status hs
  rw [hb]
  exact {
    memory := h.memory
    queue := Nat.zero_le _
    config := h.config
    status := by simp [State.statusOk, State.executing, hf]
    parked := ⟨rfl, rfl⟩ }

/-- A step that raises a fault with a cause records it (60_exceptions.md R502, R503). -/
theorem inv_raise {s : State} (h : s.Inv) (hs : s.steps) (o : Option SegReg) (q : List Byte) (p : Word) {k : FaultKind}
    (opc : Byte) (hk : k = .invalidOpcode ∨ k = .stackFault ∨ k = .divideFault) :
    ((s.executing o q p).raise k opc).endStep.Inv where
  memory := h.memory
  queue := Nat.zero_le _
  config := h.config
  status := by
    obtain ⟨_, hh⟩ := quiet_of_steps h.status hs
    rcases hk with rfl | rfl | rfl <;> simp [State.statusOk, State.executing, hh]
  parked := ⟨rfl, rfl⟩

/-- A step that raises no fault keeps the invariant, whether it goes on or halts. -/
theorem inv_kept {s v : State} (h : s.Inv) (hs : s.steps) {o : Option SegReg} {q : List Byte} {p : Word}
    (hq : q.length ≤ s.queueCap) (hk : Kept (s.executing o q p) v) : v.endStep.Inv where
  memory := by
    obtain ⟨hsize, _⟩ := h.config
    exact hk.mem h.memory hsize
  queue := by
    obtain ⟨_, hcap, _⟩ := hk.config
    rcases hk.fetch with ⟨hv, _⟩ | hv
    · simpa [State.queueOk, State.executing, hv, hcap] using hq
    · simp [State.queueOk, hv]
  config := configOk_of_same (s := s) (t := v.endStep) hk.cs hk.config h.config
  status := by
    obtain ⟨hf, hh⟩ := quiet_of_steps h.status hs
    obtain ⟨hkind, _⟩ := hk.fault
    have hvf : v.faultKind = .none := hkind.trans hf
    rcases hk.status with ⟨hst, hhr⟩ | ⟨hst, hhr⟩
    · have hst : v.status = .running := hst
      have hhr : v.haltReason = .none := hhr.trans hh
      simp [State.statusOk, hvf, hst, hhr]
    · simp [State.statusOk, hvf, hst, hhr]
  parked := ⟨rfl, rfl⟩

/-- Settles O27: a step does nothing, meets the end of the program, raises a fault with a cause, or keeps all that `Kept`
names. -/
theorem everyStepKeepsTheInvariant : Obligations.EveryStepKeepsTheInvariant := by
  intro s t h hst
  cases stepEffect_of_step hst with
  | halted _ same => rwa [same]
  | endOfProgram hs _ next => rw [next]; exact inv_endOfProgram h hs
  | executed hs o i _ q p v _ hi room hv next =>
    subst next
    rcases exec_cases hi hv with ⟨k, opc, hc, rfl⟩ | hk
    · exact inv_raise h hs o q p opc (faultCause_kind hc)
    · exact inv_kept h hs (room h.queue) hk

/-! ## How the program ended -/

/-- Settles O59: HLT and the end of the program each leave HALTED with their own halt reason, and nothing after them in
the step writes either. -/
theorem hostReadsHowTheProgramEnded : Obligations.HostReadsHowTheProgramEnded := by
  refine ⟨fun s t hs h => ?_, fun s hs => if_pos hs⟩
  cases stepEffect_of_step h with
  | halted hst _ => rcases hs with hs | hs <;> cases hs.symm.trans hst
  | endOfProgram _ hd next =>
    subst next
    exact ⟨fun _ _ he => (by cases hd.symm.trans he), fun _ => ⟨rfl, rfl⟩⟩
  | executed _ o i _ q p v hd _ _ hv next =>
    subst next
    refine ⟨fun _ _ he => ?_, fun he => (by cases hd.symm.trans he)⟩
    cases hd.symm.trans he
    cases hv
    exact ⟨rfl, rfl⟩

end Sys2Proof.Machine
end

section
/-! PROOFS. Where memory is read and written, and what `load` leaves in it (20_memory.md, 70_reset_and_hazards.md). -/

namespace Sys2Proof.Machine

/-! ## Writes -/

/-- A word written at two different addresses reads back (20_memory.md R84, R85). -/
theorem memRead16_memWrite16 {s : State} {seg off : Word} (v : Word) (h : s.lin seg off ≠ s.lin seg (off + 1)) :
    (s.memWrite16 seg off v).memRead16 seg off = v := by
  obtain ⟨hhi, hlo, _⟩ := word16Written_memWrite16 s seg off v
  calc (s.memWrite16 seg off v).memRead16 seg off
      = wordOf ((s.memWrite16 seg off v).mem.read (s.lin seg off))
          ((s.memWrite16 seg off v).mem.read (s.lin seg (off + 1))) := rfl
    _ = wordOf (loByte v) (hiByte v) := by rw [hlo h, hhi]
    _ = v := wordOf_lo_hi v

/-- Settles O9: the read-over-write laws of memory, at the one address of a byte and at the two of a word. -/
theorem memoryWritesTouchOnlyTheirBytes : Obligations.MemoryWritesTouchOnlyTheirBytes :=
  fun s seg off =>
    ⟨fun v => ⟨byte8Written_memWrite8 s seg off v, rfl, Memory.read_write_same _ _ _, memOk_memWrite8 seg off v⟩,
      fun v => ⟨word16Written_memWrite16 s seg off v, rfl, memRead16_memWrite16 v, memOk_memWrite16 seg off v⟩⟩

/-! ## Reads, and the fault that none takes -/

/-- A word has its first byte as bits 7:0 (20_memory.md R84). -/
theorem toNat_wordOf (b0 b1 : Byte) : (wordOf b0 b1).toNat = b1.toNat * 256 + b0.toNat := by
  rw [wordOf, BitVec.toNat_append, ← Nat.shiftLeft_add_eq_or_of_lt b0.isLt, Nat.shiftLeft_eq]

/-- The fault kind a step leaves is the one before, or one that an instruction has cause for. -/
theorem StepEffect.faultKind {s t : State} (h : StepEffect s t) :
    t.faultKind = s.faultKind ∨ t.faultKind = .invalidOpcode ∨ t.faultKind = .stackFault ∨
      t.faultKind = .divideFault := by
  cases h with
  | halted _ same => exact .inl (congrArg State.faultKind same)
  | endOfProgram _ _ next =>
    obtain ⟨q, p, hb, _⟩ := beginStep_eq_executing s
    rw [next, hb]
    exact .inl rfl
  | executed _ o i _ q p v _ hi _ hv next =>
    subst next
    rcases exec_cases hi hv with ⟨k, opc, hcause, rfl⟩ | hkept
    · exact .inr (faultCause_kind hcause)
    · obtain ⟨hkind, _⟩ := hkept.fault
      exact .inl hkind

/-- MemoryFault is recorded by no step (20_memory.md R82, 90_conflicts.md C1). -/
theorem StepEffect.faultKind_ne_memoryFault {s t : State} (h : StepEffect s t) (hs : s.faultKind ≠ .memoryFault) :
    t.faultKind ≠ .memoryFault := by
  rcases h.faultKind with e | e | e | e
  · rwa [e]
  all_goals simp [e]

/-- Settles O8: the reads are R81 and R84 as the model has them, the modulus keeps every address inside the store, and no
instruction has cause for MemoryFault. -/
theorem memoryReadsAndTheUnreachableMemoryFault : Obligations.MemoryReadsAndTheUnreachableMemoryFault :=
  ⟨fun s seg off => ⟨rfl, rfl, toNat_wordOf _ _, fun h => ⟨lin_lt s seg off h, decide_eq_true (lin_lt s seg off h)⟩⟩,
    fun _ _ hs h => (stepEffect_of_step h).faultKind_ne_memoryFault hs⟩

/-! ## Bytes placed one after another -/

theorem placeBytes_eq_mem (s : State) (off : Word) (bs : List Byte) :
    s.placeBytes off bs = { s with mem := (s.placeBytes off bs).mem } := by
  induction bs generalizing s off with
  | nil => rfl
  | cons b bs ih => exact ih _ _

theorem memOk_placeBytes {s : State} (off : Word) (bs : List Byte) (h : s.memOk) (hc : 1 ≤ s.memSize) :
    (s.placeBytes off bs).memOk := by
  induction bs generalizing s off with
  | nil => exact h
  | cons b bs ih => exact ih _ (memOk_memWrite8 _ _ _ h hc) hc

/-- Where byte `i` of `bs` is placed when the first one goes to `CS:off` (70_reset_and_hazards.md R541). -/
def State.byteAddress (s : State) (off : Word) (i : Nat) : Nat := s.lin (s.sreg .cs) (off + BitVec.ofNat 16 i)

@[simp] theorem byteAddress_zero (s : State) (off : Word) : s.byteAddress off 0 = s.lin (s.sreg .cs) off := by
  simp [State.byteAddress]

/-- The place of a later byte, counted from the next offset on; a write moves no place. -/
theorem byteAddress_succ (s : State) (g o : Word) (b : Byte) (off : Word) (i : Nat) :
    (s.memWrite8 g o b).byteAddress (off + 1) i = s.byteAddress off (i + 1) := by
  have hoff : off + 1 + BitVec.ofNat 16 i = off + BitVec.ofNat 16 (i + 1) := by
    rw [Nat.add_comm i 1, BitVec.ofNat_add, BitVec.add_assoc, BitVec.ofNat_eq_ofNat]
  exact congrArg (s.lin (s.sreg .cs)) hoff

/-- An address that no byte is placed at reads as before. -/
theorem read_placeBytes_other {s : State} {off : Word} {bs : List Byte} {a : Nat}
    (h : ∀ i, i < bs.length → s.byteAddress off i ≠ a) : (s.placeBytes off bs).mem.read a = s.mem.read a := by
  induction bs generalizing s off with
  | nil => rfl
  | cons b bs ih =>
    have hhead : a ≠ s.lin (s.sreg .cs) off := by simpa using (h 0 (by simp)).symm
    have htail : ∀ i, i < bs.length → (s.memWrite8 (s.sreg .cs) off b).byteAddress (off + 1) i ≠ a := fun i hi => by
      rw [byteAddress_succ]
      exact h (i + 1) (by simpa using hi)
    exact (ih htail).trans (Memory.read_write_other _ _ hhead)

/-- The byte placed last at an address is read there (20_memory.md R95). -/
theorem read_placeBytes_last {s : State} {off : Word} {bs : List Byte} {i : Nat} (hi : i < bs.length)
    (hlast : ∀ j, i < j → j < bs.length → s.byteAddress off j ≠ s.byteAddress off i) :
    (s.placeBytes off bs).mem.read (s.byteAddress off i) = bs[i] := by
  induction bs generalizing s off i with
  | nil => cases hi
  | cons b bs ih =>
    have hplace := byteAddress_succ s (s.sreg .cs) off b off
    cases i with
    | zero =>
      have hrest : ∀ j, j < bs.length →
          (s.memWrite8 (s.sreg .cs) off b).byteAddress (off + 1) j ≠ s.byteAddress off 0 := fun j hj => by
        rw [hplace]
        exact hlast (j + 1) (by simp) (by simpa using hj)
      refine (read_placeBytes_other hrest).trans ?_
      rw [byteAddress_zero]
      exact Memory.read_write_same _ _ _
    | succ i =>
      rw [← hplace]
      refine ih (by simpa using hi) fun j hij hj => ?_
      rw [hplace, hplace]
      exact hlast (j + 1) (by simpa using hij) (by simpa using hj)

/-! ## load -/

/-- `load` of a valid argument leaves R540's state but for memory, where the image's bytes are placed. -/
theorem load_of_valid {img : Image} {cfg : LoadConfig} (h : validLoad img cfg) (s : State) :
    load img cfg s =
      ({ State.afterLoad img cfg with mem := ((State.afterLoad img cfg).placeBytes img.entry img.bytes).mem }, .ok) := by
  rw [load, if_pos h, ← placeBytes_eq_mem]

theorem load_of_invalid {img : Image} {cfg : LoadConfig} (h : ¬validLoad img cfg) (s : State) :
    load img cfg s = (s, .err .loadRefused) := if_neg h

/-- R540's state meets the invariant, whichever memory of the right form is put into it. -/
theorem inv_afterLoad {img : Image} {cfg : LoadConfig} {m : Memory} (h : validLoad img cfg)
    (hm : State.memOk { State.afterLoad img cfg with mem := m }) :
    State.Inv { State.afterLoad img cfg with mem := m } where
  memory := hm
  queue := Nat.zero_le _
  config := by
    obtain ⟨hmem, hcap, _, _, _, _, hsize, hend⟩ := h
    exact ⟨hmem, hcap, rfl, rfl, hend, hsize, rfl⟩
  status := by simp [State.statusOk, State.afterLoad, State.reset]
  parked := ⟨rfl, rfl⟩

/-- Every state that `load` leaves meets the invariant. -/
theorem inv_load {img : Image} {cfg : LoadConfig} (h : validLoad img cfg) (s : State) : (load img cfg s).1.Inv := by
  have hempty : (State.afterLoad img cfg).memOk := ⟨⟨List.Pairwise.nil, by simp [State.afterLoad, State.reset]⟩,
    by simp [State.afterLoad, State.reset]⟩
  have hplaced := memOk_placeBytes img.entry img.bytes hempty h.1
  rw [placeBytes_eq_mem] at hplaced
  rw [load_of_valid h]
  exact inv_afterLoad h hplaced

/-- Settles O31: the registers are those of R540's state, and the laws of `placeBytes` give the memory. -/
theorem loadEstablishesTheResetState : Obligations.LoadEstablishesTheResetState := by
  intro img cfg s
  refine ⟨fun h => ?_, fun h => load_of_invalid h s⟩
  have hload := load_of_valid h s
  have hinv := inv_load h s
  rw [hload] at hinv
  obtain ⟨_, _, hds, hcs, hss, hes, _, _⟩ := h
  obtain ⟨_, _, _, hword⟩ := flagsWordLayout
  refine ⟨_, hload, fun r => by cases r <;> rfl, ?ds, ?cs, ?ss, ?es, rfl, rfl, ?archIp, rfl, rfl, hword, rfl, rfl, rfl, rfl,
    rfl, rfl, rfl, rfl, rfl, rfl, fun i hi => read_placeBytes_last (s := .afterLoad img cfg) (off := img.entry) hi,
    fun a => read_placeBytes_other (s := .afterLoad img cfg) (off := img.entry), hinv⟩
  case ds => exact Nat.mod_eq_of_lt hds
  case cs => exact Nat.mod_eq_of_lt hcs
  case ss => exact Nat.mod_eq_of_lt hss
  case es => exact Nat.mod_eq_of_lt hes
  case archIp => exact BitVec.sub_zero _

end Sys2Proof.Machine
end

section
/-! PROOFS. The decoder and the encoder are inverse to each other (30_encoding.md R120 to R151). -/

namespace Sys2Proof

/-! ## Bit fields and register numbers -/

@[simp] theorem modRM_ofByte_toByte (m : ModRM) : ModRM.ofByte m.toByte = m := by
  obtain ⟨mod, reg, rm⟩ := m
  revert mod reg rm
  decide

@[simp] theorem modRM_toByte_ofByte (b : Byte) : (ModRM.ofByte b).toByte = b := by
  revert b
  decide

@[simp] theorem reg8_ofNum_num (r : Reg8) : Reg8.ofNum r.num = r := by cases r <;> rfl

@[simp] theorem reg16_ofNum_num (r : Reg16) : Reg16.ofNum r.num = r := by cases r <;> rfl

@[simp] theorem eaBase_ofNum_num (b : EaBase) : EaBase.ofNum b.num = b := by cases b <;> rfl

@[simp] theorem reg8_num_ofNum (n : BitVec 3) : (Reg8.ofNum n).num = n := by revert n; decide

@[simp] theorem reg16_num_ofNum (n : BitVec 3) : (Reg16.ofNum n).num = n := by revert n; decide

@[simp] theorem eaBase_num_ofNum (n : BitVec 3) : (EaBase.ofNum n).num = n := by revert n; decide

theorem segReg_num3_ofNum3? {n : BitVec 3} {sr : SegReg} (h : SegReg.ofNum3? n = some sr) : sr.num3 = n := by
  revert n sr; decide

@[simp] theorem segReg_ofNum3?_num3 (sr : SegReg) : SegReg.ofNum3? sr.num3 = some sr := by cases sr <;> rfl

/-! ## The r/m operand -/

/-- The ModRM byte of an r/m operand, with `reg` in the reg field (R122, R123). -/
def RawEa.modrm (reg : BitVec 3) : RawEa → ModRM
  | .reg n => ⟨3, reg, n⟩
  | .mem (.base b) => ⟨0, reg, b.num⟩
  | .mem (.direct _) => ⟨0, reg, 6⟩
  | .mem (.disp8 b _) => ⟨1, reg, b.num⟩
  | .mem (.disp16 b _) => ⟨2, reg, b.num⟩

/-- The displacement bytes of an r/m operand (R123). -/
def RawEa.disp : RawEa → List Byte
  | .mem (.direct off) => wordBytes off
  | .mem (.disp8 _ d) => [d]
  | .mem (.disp16 _ d) => wordBytes d
  | _ => []

/-- An r/m operand by the number of its register. -/
def Rm.raw {ρ : Type} (num : ρ → BitVec 3) : Rm ρ → RawEa
  | .reg r => .reg (num r)
  | .mem m => .mem m

@[simp] theorem raw_wf {ρ : Type} (num : ρ → BitVec 3) (rm : Rm ρ) : (rm.raw num).wf = rm.wf := by cases rm <;> rfl

@[simp] theorem raw_rm8 (rm : Rm8) : (rm.raw Reg8.num).rm8 = rm := by cases rm <;> simp [Rm.raw, RawEa.rm8]

@[simp] theorem raw_rm16 (rm : Rm16) : (rm.raw Reg16.num).rm16 = rm := by cases rm <;> simp [Rm.raw, RawEa.rm16]

@[simp] theorem rm8_raw (ea : RawEa) : ea.rm8.raw Reg8.num = ea := by cases ea <;> simp [Rm.raw, RawEa.rm8]

@[simp] theorem rm16_raw (ea : RawEa) : ea.rm16.raw Reg16.num = ea := by cases ea <;> simp [Rm.raw, RawEa.rm16]

theorem memRef_bytes_eq (m : MemRef) (reg : BitVec 3) :
    m.bytes reg = (RawEa.modrm reg (.mem m)).toByte :: RawEa.disp (.mem m) := by cases m <;> rfl

theorem bytes8_eq (rm : Rm8) (reg : BitVec 3) :
    rm.bytes8 reg = ((rm.raw Reg8.num).modrm reg).toByte :: (rm.raw Reg8.num).disp := by
  cases rm with
  | reg r => rfl
  | mem m => exact memRef_bytes_eq m reg

theorem bytes16_eq (rm : Rm16) (reg : BitVec 3) :
    rm.bytes16 reg = ((rm.raw Reg16.num).modrm reg).toByte :: (rm.raw Reg16.num).disp := by
  cases rm with
  | reg r => rfl
  | mem m => exact memRef_bytes_eq m reg

theorem disp_length (ea : RawEa) : ea.disp.length ≤ 2 := by
  rcases ea with n | m
  · simp [RawEa.disp]
  · cases m <;> simp [RawEa.disp, wordBytes]

/-- The ModRM byte and the displacement of a well-formed operand are read back as that operand (R123, R125). -/
theorem readEa_modrm_disp {ea : RawEa} (h : ea.wf = true) (reg : BitVec 3) (rest : List Byte) :
    readEa (ea.modrm reg) (ea.disp ++ rest) = some (ea, rest) := by
  rcases ea with n | m
  · rfl
  · cases m with
    | base b =>
      have hb : b.num ≠ 6 := fun h6 => by
        obtain rfl : b = .bp := by rw [← eaBase_ofNum_num b, h6]; rfl
        cases h
      exact (if_neg hb).trans (by simp [RawEa.modrm, RawEa.disp])
    | direct off => simp [RawEa.modrm, RawEa.disp, readEa, wordBytes]
    | disp8 b d => simp [RawEa.modrm, RawEa.disp, readEa]
    | disp16 b d => simp [RawEa.modrm, RawEa.disp, readEa, wordBytes]

@[simp] theorem wordBytes_wordOf (b0 b1 : Byte) : wordBytes (wordOf b0 b1) = [b0, b1] := by
  simp [wordBytes, Machine.loByte_wordOf, Machine.hiByte_wordOf]

theorem modRM_eq {m : ModRM} {mod : BitVec 2} {rm : BitVec 3} (hmod : m.mod.toNat = mod.toNat) (hrm : m.rm = rm) :
    (⟨mod, m.reg, rm⟩ : ModRM) = m := by
  cases BitVec.eq_of_toNat_eq hmod
  cases hrm
  rfl

/-- What `readEa` has read is the ModRM byte and the displacement of the operand it answers (R123, R125). -/
theorem readEa_some {m : ModRM} {bs rest : List Byte} {ea : RawEa} (h : readEa m bs = some (ea, rest)) :
    ea.modrm m.reg = m ∧ bs = ea.disp ++ rest := by
  revert h
  fun_cases readEa m bs <;> rintro ⟨⟩
  case case1 hmod hrm b0 b1 => exact ⟨modRM_eq hmod hrm, by simp [RawEa.disp]⟩
  case case3 hmod _ => exact ⟨modRM_eq hmod (by simp), rfl⟩
  case case4 hmod d => exact ⟨modRM_eq hmod (by simp), rfl⟩
  case case6 hmod b0 b1 => exact ⟨modRM_eq hmod (by simp), by simp [RawEa.disp]⟩
  case case8 h0 h1 h2 =>
    have hmod : m.mod.toNat = 3 := by
      have := m.mod.isLt
      simp only [imp_false] at h0 h1 h2
      omega
    exact ⟨modRM_eq hmod rfl, rfl⟩

/-! ## From an entry of the opcode map and the bytes of its operands to the instruction -/

section
variable {opc : Byte} {rest : List Byte}

theorem decodeUnit_op {i : Instr} (h : opcodeEntry opc = .op i) : decodeUnit ([opc] ++ rest) = .ok i rest := by
  simp [decodeUnit, h]

theorem decodeUnit_imm8 {f : Byte → Instr} {v : Byte} (h : opcodeEntry opc = .imm8 f) :
    decodeUnit ([opc, v] ++ rest) = .ok (f v) rest := by simp [decodeUnit, h]

theorem decodeUnit_imm16 {f : Word → Instr} {v : Word} (h : opcodeEntry opc = .imm16 f) :
    decodeUnit (opc :: wordBytes v ++ rest) = .ok (f v) rest := by
  simp [decodeUnit, h, wordBytes, Machine.wordOf_lo_hi]

theorem decodeUnit_modrm {f : ModRM → ModEntry} (h : opcodeEntry opc = .modrm f) (m : Byte) :
    decodeUnit (opc :: m :: rest) = decodeModrm opc m (f (ModRM.ofByte m)) rest := by simp [decodeUnit, h]

variable {f : ModRM → ModEntry} {reg : BitVec 3}

/-- An entry that the reg field decides alone is the entry of every operand with that reg field. -/
theorem entry_modrm {e : ModEntry} (hf : ∀ mod rm, f ⟨mod, reg, rm⟩ = e) (ea : RawEa) : f (ea.modrm reg) = e := by
  rcases ea with n | m
  · exact hf _ _
  · cases m <;> exact hf _ _

theorem decodeUnit_mem {g : MemRef → Instr} {m : MemRef} (h : opcodeEntry opc = .modrm f)
    (hf : ∀ mod rm, f ⟨mod, reg, rm⟩ = .mem g) (hm : m.wf = true) :
    decodeUnit (opc :: m.bytes reg ++ rest) = .ok (g m) rest := by
  have hea : (Rm.mem m : RawEa).wf = true := hm
  simp [memRef_bytes_eq, decodeUnit_modrm h, entry_modrm hf, decodeModrm, readEa_modrm_disp hea]

theorem decodeUnit_plain8 {g : Rm8 → Instr} {rm : Rm8} (h : opcodeEntry opc = .modrm f)
    (hf : ∀ mod rm, f ⟨mod, reg, rm⟩ = .plain fun ea => g ea.rm8) (hw : rm.wf = true) :
    decodeUnit (opc :: rm.bytes8 reg ++ rest) = .ok (g rm) rest := by
  have hea : (rm.raw Reg8.num).wf = true := by simpa using hw
  simp [bytes8_eq, decodeUnit_modrm h, entry_modrm hf, decodeModrm, readEa_modrm_disp hea]

theorem decodeUnit_plain16 {g : Rm16 → Instr} {rm : Rm16} (h : opcodeEntry opc = .modrm f)
    (hf : ∀ mod rm, f ⟨mod, reg, rm⟩ = .plain fun ea => g ea.rm16) (hw : rm.wf = true) :
    decodeUnit (opc :: rm.bytes16 reg ++ rest) = .ok (g rm) rest := by
  have hea : (rm.raw Reg16.num).wf = true := by simpa using hw
  simp [bytes16_eq, decodeUnit_modrm h, entry_modrm hf, decodeModrm, readEa_modrm_disp hea]

theorem decodeUnit_rm8Imm8 {g : Rm8 → Byte → Instr} {rm : Rm8} {v : Byte} (h : opcodeEntry opc = .modrm f)
    (hf : ∀ mod rm, f ⟨mod, reg, rm⟩ = .imm8 fun ea => g ea.rm8) (hw : rm.wf = true) :
    decodeUnit (opc :: rm.bytes8 reg ++ [v] ++ rest) = .ok (g rm v) rest := by
  have hea : (rm.raw Reg8.num).wf = true := by simpa using hw
  simp [bytes8_eq, decodeUnit_modrm h, entry_modrm hf, decodeModrm, readEa_modrm_disp hea]

theorem decodeUnit_rm16Imm8 {g : Rm16 → Byte → Instr} {rm : Rm16} {v : Byte} (h : opcodeEntry opc = .modrm f)
    (hf : ∀ mod rm, f ⟨mod, reg, rm⟩ = .imm8 fun ea => g ea.rm16) (hw : rm.wf = true) :
    decodeUnit (opc :: rm.bytes16 reg ++ [v] ++ rest) = .ok (g rm v) rest := by
  have hea : (rm.raw Reg16.num).wf = true := by simpa using hw
  simp [bytes16_eq, decodeUnit_modrm h, entry_modrm hf, decodeModrm, readEa_modrm_disp hea]

theorem decodeUnit_rm16Imm16 {g : Rm16 → Word → Instr} {rm : Rm16} {v : Word} (h : opcodeEntry opc = .modrm f)
    (hf : ∀ mod rm, f ⟨mod, reg, rm⟩ = .imm16 fun ea => g ea.rm16) (hw : rm.wf = true) :
    decodeUnit (opc :: rm.bytes16 reg ++ wordBytes v ++ rest) = .ok (g rm v) rest := by
  have hea : (rm.raw Reg16.num).wf = true := by simpa using hw
  simp [bytes16_eq, decodeUnit_modrm h, entry_modrm hf, decodeModrm, readEa_modrm_disp hea, wordBytes,
    Machine.wordOf_lo_hi]

theorem decodeUnit_rmReg8 {g : Rm8 → Reg8 → Instr} {rm : Rm8} {r : Reg8} (h : opcodeEntry opc = .modrm (rmReg8 g))
    (hw : rm.wf = true) : decodeUnit (opc :: rm.bytes8 r.num ++ rest) = .ok (g rm r) rest :=
  decodeUnit_plain8 (g := (g · r)) h (fun _ _ => by simp [rmReg8]) hw

theorem decodeUnit_regRm8 {g : Reg8 → Rm8 → Instr} {rm : Rm8} {r : Reg8} (h : opcodeEntry opc = .modrm (regRm8 g))
    (hw : rm.wf = true) : decodeUnit (opc :: rm.bytes8 r.num ++ rest) = .ok (g r rm) rest :=
  decodeUnit_plain8 (g := g r) h (fun _ _ => by simp [regRm8]) hw

theorem decodeUnit_rmReg16 {g : Rm16 → Reg16 → Instr} {rm : Rm16} {r : Reg16}
    (h : opcodeEntry opc = .modrm (rmReg16 g)) (hw : rm.wf = true) :
    decodeUnit (opc :: rm.bytes16 r.num ++ rest) = .ok (g rm r) rest :=
  decodeUnit_plain16 (g := (g · r)) h (fun _ _ => by simp [rmReg16]) hw

theorem decodeUnit_regRm16 {g : Reg16 → Rm16 → Instr} {rm : Rm16} {r : Reg16}
    (h : opcodeEntry opc = .modrm (regRm16 g)) (hw : rm.wf = true) :
    decodeUnit (opc :: rm.bytes16 r.num ++ rest) = .ok (g r rm) rest :=
  decodeUnit_plain16 (g := g r) h (fun _ _ => by simp [regRm16]) hw

end

/-! ## The rejected encodings -/

/-- The opcode byte has no entry in the map. -/
def Entry.isInvalid : Entry → Bool
  | .invalid => true
  | _ => false

theorem invalidOpcode_eq_isInvalid (opc : Byte) : invalidOpcode opc = (opcodeEntry opc).isInvalid := by
  revert opc
  decide

/-- The opcode bytes without an entry are those marked `I` (R165). -/
theorem opcodeEntry_eq_invalid_iff (opc : Byte) : opcodeEntry opc = .invalid ↔ invalidOpcode opc = true := by
  rw [invalidOpcode_eq_isInvalid]
  cases opcodeEntry opc <;> simp [Entry.isInvalid]

/-- Whether the ModRM byte `m` rules the encoding out, by the entry it selects; LEA takes no register (R166 (b), (c)).
-/
def ModEntry.rejects (m : ModRM) : ModEntry → Bool
  | .forbidden => true
  | .mem _ => m.mod == 3
  | _ => false

theorem decodeModrm_of_rejects {e : ModEntry} {opc m : Byte} (h : e.rejects (ModRM.ofByte m) = true) (bs : List Byte) :
    decodeModrm opc m e bs = .ok (.invalid opc (some m)) bs := by
  cases e with
  | forbidden => rfl
  | mem f =>
    have hmod : (ModRM.ofByte m).mod = 3 := by simpa [ModEntry.rejects] using h
    simp [decodeModrm, readEa, hmod]
  | plain f | imm8 f | imm16 f => cases h

/-! Each group of the opcode map rejects the ModRM bytes that R166 lists for its opcode: a check of the 256 bytes. -/

theorem group8C_rejects (m : Byte) : (group8C (.ofByte m)).rejects (.ofByte m) = forbiddenModrm 0x8C m := by
  revert m; decide

theorem group8D_rejects (m : Byte) : (group8D (.ofByte m)).rejects (.ofByte m) = forbiddenModrm 0x8D m := by
  revert m; decide

theorem group8E_rejects (m : Byte) : (group8E (.ofByte m)).rejects (.ofByte m) = forbiddenModrm 0x8E m := by
  revert m; decide

theorem group8F_rejects (m : Byte) : (group8F (.ofByte m)).rejects (.ofByte m) = forbiddenModrm 0x8F m := by
  revert m; decide

theorem groupC6_rejects (m : Byte) : (groupC6 (.ofByte m)).rejects (.ofByte m) = forbiddenModrm 0xC6 m := by
  revert m; decide

theorem groupC7_rejects (m : Byte) : (groupC7 (.ofByte m)).rejects (.ofByte m) = forbiddenModrm 0xC7 m := by
  revert m; decide

theorem groupF6_rejects (m : Byte) : (groupF6 (.ofByte m)).rejects (.ofByte m) = forbiddenModrm 0xF6 m := by
  revert m; decide

theorem groupF7_rejects (m : Byte) : (groupF7 (.ofByte m)).rejects (.ofByte m) = forbiddenModrm 0xF7 m := by
  revert m; decide

theorem groupFE_rejects (m : Byte) : (groupFE (.ofByte m)).rejects (.ofByte m) = forbiddenModrm 0xFE m := by
  revert m; decide

theorem groupFF_rejects (m : Byte) : (groupFF (.ofByte m)).rejects (.ofByte m) = forbiddenModrm 0xFF m := by
  revert m; decide

/-- A forbidden ModRM byte belongs to an opcode whose entry rejects it (R166 (b) and (c)). -/
theorem exists_rejects_of_forbiddenModrm {opc m : Byte} (h : forbiddenModrm opc m = true) :
    ∃ f, opcodeEntry opc = .modrm f ∧ (f (.ofByte m)).rejects (.ofByte m) = true := by
  have hopc {k : Nat} (hk : opc.toNat = k) : opc = BitVec.ofNat 8 k := by simp [← hk]
  revert h
  fun_cases forbiddenModrm opc m
  case case1 hk => cases hopc hk; exact fun h => ⟨_, rfl, (group8C_rejects m).trans h⟩
  case case2 hk => cases hopc hk; exact fun h => ⟨_, rfl, (group8D_rejects m).trans h⟩
  case case3 hk => cases hopc hk; exact fun h => ⟨_, rfl, (group8E_rejects m).trans h⟩
  case case4 hk => cases hopc hk; exact fun h => ⟨_, rfl, (group8F_rejects m).trans h⟩
  case case5 hk => cases hopc hk; exact fun h => ⟨_, rfl, (groupC6_rejects m).trans h⟩
  case case6 hk => cases hopc hk; exact fun h => ⟨_, rfl, (groupC7_rejects m).trans h⟩
  case case7 hk => cases hopc hk; exact fun h => ⟨_, rfl, (groupF6_rejects m).trans h⟩
  case case8 hk => cases hopc hk; exact fun h => ⟨_, rfl, (groupF7_rejects m).trans h⟩
  case case9 hk => cases hopc hk; exact fun h => ⟨_, rfl, (groupFE_rejects m).trans h⟩
  case case10 hk => cases hopc hk; exact fun h => ⟨_, rfl, (groupFF_rejects m).trans h⟩
  case case11 => exact nofun

/-- A rejected encoding is read as its rejection, and no byte after the one that decides it is (R167). -/
theorem decodeUnit_invalid {opc : Byte} {modrm : Option Byte} (h : invalidEncoding opc modrm = true)
    (rest : List Byte) : decodeUnit (opc :: modrm.toList ++ rest) = .ok (.invalid opc modrm) rest := by
  cases modrm with
  | none => simp [decodeUnit, (opcodeEntry_eq_invalid_iff opc).mpr h]
  | some m =>
    obtain ⟨f, hf, hm⟩ := exists_rejects_of_forbiddenModrm h
    exact (decodeUnit_modrm hf m).trans (decodeModrm_of_rejects hm rest)

/-! ## Every instruction -/

/-- Settles O1, constructor by constructor: the entry of its opcode byte, and of its reg field where it has one, is that
constructor, and the law of the entry's operand form reads the operands back. -/
theorem decodeInvertsEncode : Obligations.DecodeInvertsEncode := by
  intro i rest hi
  cases i
  case pushEs | popEs | pushCs | pushSs | popSs | pushDs | popDs | prefixEs | prefixCs | prefixSs | prefixDs | incAx
      | incCx | incDx | incBx | incSp | incBp | incSi | incDi | decAx | decCx | decDx | decBx | decSp | decBp | decSi
      | decDi | pushAx | pushCx | pushDx | pushBx | pushSp | pushBp | pushSi | pushDi | popAx | popCx | popDx | popBx
      | popSp | popBp | popSi | popDi | nop | xchgAxCx | xchgAxDx | xchgAxBx | xchgAxSp | xchgAxBp | xchgAxSi | xchgAxDi
      | cbw | cwd | pushf | popf | sahf | lahf | ret | hlt | cmc | clc | stc | cli | sti | cld | std =>
    exact decodeUnit_op rfl
  case addAlImm8 | orAlImm8 | adcAlImm8 | sbbAlImm8 | andAlImm8 | subAlImm8 | xorAlImm8 | cmpAlImm8 | testAlImm8
      | joRel8 | jnoRel8 | jbRel8 | jaeRel8 | jeRel8 | jneRel8 | jbeRel8 | jaRel8 | jsRel8 | jnsRel8 | jpRel8 | jnpRel8
      | jlRel8 | jgeRel8 | jleRel8 | jgRel8 | loopneRel8 | loopeRel8 | loopRel8 | jcxzRel8 | jmpRel8 | movAlImm8
      | movClImm8 | movDlImm8 | movBlImm8 | movAhImm8 | movChImm8 | movDhImm8 | movBhImm8 =>
    exact decodeUnit_imm8 rfl
  case addAxImm16 | orAxImm16 | adcAxImm16 | sbbAxImm16 | andAxImm16 | subAxImm16 | xorAxImm16 | cmpAxImm16
      | testAxImm16 | movAlMoffs8 | movAxMoffs16 | movMoffs8Al | movMoffs16Ax | movAxImm16 | movCxImm16 | movDxImm16
      | movBxImm16 | movSpImm16 | movBpImm16 | movSiImm16 | movDiImm16 | retImm16 | callRel16 | jmpRel16 =>
    exact decodeUnit_imm16 rfl
  case addRm8R8 | orRm8R8 | adcRm8R8 | sbbRm8R8 | andRm8R8 | subRm8R8 | xorRm8R8 | cmpRm8R8 | testRm8R8 | xchgRm8R8
      | movRm8R8 =>
    exact decodeUnit_rmReg8 rfl hi
  case addR8Rm8 | orR8Rm8 | adcR8Rm8 | sbbR8Rm8 | andR8Rm8 | subR8Rm8 | xorR8Rm8 | cmpR8Rm8 | movR8Rm8 =>
    exact decodeUnit_regRm8 rfl hi
  case addRm16R16 | orRm16R16 | adcRm16R16 | sbbRm16R16 | andRm16R16 | subRm16R16 | xorRm16R16 | cmpRm16R16
      | testRm16R16 | xchgRm16R16 | movRm16R16 =>
    exact decodeUnit_rmReg16 rfl hi
  case addR16Rm16 | orR16Rm16 | adcR16Rm16 | sbbR16Rm16 | andR16Rm16 | subR16Rm16 | xorR16Rm16 | cmpR16Rm16
      | movR16Rm16 =>
    exact decodeUnit_regRm16 rfl hi
  case addRm8Imm8 | orRm8Imm8 | adcRm8Imm8 | sbbRm8Imm8 | andRm8Imm8 | subRm8Imm8 | xorRm8Imm8 | cmpRm8Imm8
      | testRm8Imm8 | movRm8Imm8 =>
    exact decodeUnit_rm8Imm8 rfl (fun _ _ => rfl) hi
  case addRm16Imm8 | orRm16Imm8 | adcRm16Imm8 | sbbRm16Imm8 | andRm16Imm8 | subRm16Imm8 | xorRm16Imm8 | cmpRm16Imm8 =>
    exact decodeUnit_rm16Imm8 rfl (fun _ _ => rfl) hi
  case addRm16Imm16 | orRm16Imm16 | adcRm16Imm16 | sbbRm16Imm16 | andRm16Imm16 | subRm16Imm16 | xorRm16Imm16
      | cmpRm16Imm16 | testRm16Imm16 | movRm16Imm16 =>
    exact decodeUnit_rm16Imm16 rfl (fun _ _ => rfl) hi
  case notRm8 | negRm8 | mulRm8 | imulRm8 | divRm8 | idivRm8 | incRm8 | decRm8 =>
    exact decodeUnit_plain8 rfl (fun _ _ => rfl) hi
  case notRm16 | negRm16 | mulRm16 | imulRm16 | divRm16 | idivRm16 | incRm16 | decRm16 | callRm16 | jmpRm16 | pushRm16
      | popRm16 | movEsRm16 =>
    exact decodeUnit_plain16 rfl (fun _ _ => rfl) hi
  case movRm16Sreg rm sr =>
    exact decodeUnit_plain16 (f := group8C) (g := (.movRm16Sreg · sr)) rfl (fun _ _ => by simp [group8C]) hi
  case movSsDsRm16 sr rm =>
    obtain ⟨hsr, hw⟩ := Bool.and_eq_true_iff.mp hi
    cases sr
    case es | cs => exact absurd hsr (by decide)
    case ss | ds => exact decodeUnit_plain16 rfl (fun _ _ => rfl) hw
  case leaR16M r m =>
    exact decodeUnit_mem (f := group8D) (g := .leaR16M r) rfl (fun _ _ => by simp [group8D]) hi
  case invalid => exact decodeUnit_invalid hi rest

end Sys2Proof
end

section
/-! PROOFS. Whatever the decoder reads is the encoding of what it answers (30_encoding.md R120 to R151, R165, R166). -/

namespace Sys2Proof

/-! ## What each entry of the opcode map encodes to -/

/-- The instructions of a ModRM entry are encoded as the opcode byte, their operand with `reg` in the reg field, and
their immediate. -/
def ModEntry.Encodes (opc : Byte) (reg : BitVec 3) : ModEntry → Prop
  | .forbidden => True
  | .plain f => ∀ ea : RawEa, encode (f ea) = opc :: (ea.modrm reg).toByte :: ea.disp
  | .mem f => ∀ m : MemRef, encode (f m) = opc :: m.bytes reg
  | .imm8 f => ∀ (ea : RawEa) (v : Byte), encode (f ea v) = opc :: (ea.modrm reg).toByte :: ea.disp ++ [v]
  | .imm16 f => ∀ (ea : RawEa) (v : Word), encode (f ea v) = opc :: (ea.modrm reg).toByte :: ea.disp ++ wordBytes v

/-- The instructions of the entry of the opcode byte `opc` are encoded as that byte and the operands that the entry
reads, and the ModRM bytes that the entry rejects are forbidden. -/
def Entry.Encodes (opc : Byte) : Entry → Prop
  | .invalid => True
  | .op i => encode i = [opc]
  | .imm8 f => ∀ v, encode (f v) = [opc, v]
  | .imm16 f => ∀ v, encode (f v) = opc :: wordBytes v
  | .modrm f => ∀ m : Byte, (f (.ofByte m)).Encodes opc (ModRM.ofByte m).reg ∧
      ((f (.ofByte m)).rejects (.ofByte m) = true → forbiddenModrm opc m = true)

section
variable {opc : Byte}

theorem bytes8_rm8 (ea : RawEa) (reg : BitVec 3) : ea.rm8.bytes8 reg = (ea.modrm reg).toByte :: ea.disp := by
  rw [bytes8_eq, rm8_raw]

theorem bytes16_rm16 (ea : RawEa) (reg : BitVec 3) : ea.rm16.bytes16 reg = (ea.modrm reg).toByte :: ea.disp := by
  rw [bytes16_eq, rm16_raw]

section
variable {m : ModRM} {reg : BitVec 3} (hreg : m.reg.toNat = reg.toNat)
include hreg

theorem plain8_encodes {g : Rm8 → Instr} (hg : ∀ rm, encode (g rm) = opc :: rm.bytes8 reg) :
    (ModEntry.plain fun ea => g ea.rm8).Encodes opc m.reg := by
  rw [BitVec.eq_of_toNat_eq hreg]
  exact fun ea => by rw [hg, bytes8_rm8]

theorem plain16_encodes {g : Rm16 → Instr} (hg : ∀ rm, encode (g rm) = opc :: rm.bytes16 reg) :
    (ModEntry.plain fun ea => g ea.rm16).Encodes opc m.reg := by
  rw [BitVec.eq_of_toNat_eq hreg]
  exact fun ea => by rw [hg, bytes16_rm16]

theorem rm8Imm8_encodes {g : Rm8 → Byte → Instr} (hg : ∀ rm v, encode (g rm v) = opc :: rm.bytes8 reg ++ [v]) :
    (ModEntry.imm8 fun ea => g ea.rm8).Encodes opc m.reg := by
  rw [BitVec.eq_of_toNat_eq hreg]
  exact fun ea v => by rw [hg, bytes8_rm8]

theorem rm16Imm8_encodes {g : Rm16 → Byte → Instr} (hg : ∀ rm v, encode (g rm v) = opc :: rm.bytes16 reg ++ [v]) :
    (ModEntry.imm8 fun ea => g ea.rm16).Encodes opc m.reg := by
  rw [BitVec.eq_of_toNat_eq hreg]
  exact fun ea v => by rw [hg, bytes16_rm16]

theorem rm16Imm16_encodes {g : Rm16 → Word → Instr}
    (hg : ∀ rm v, encode (g rm v) = opc :: rm.bytes16 reg ++ wordBytes v) :
    (ModEntry.imm16 fun ea => g ea.rm16).Encodes opc m.reg := by
  rw [BitVec.eq_of_toNat_eq hreg]
  exact fun ea v => by rw [hg, bytes16_rm16]

end

theorem rmReg8_encodes {g : Rm8 → Reg8 → Instr} (hg : ∀ rm r, encode (g rm r) = opc :: rm.bytes8 r.num) :
    (Entry.modrm (rmReg8 g)).Encodes opc :=
  fun m =>
    ⟨plain8_encodes (g := (g · (Reg8.ofNum (ModRM.ofByte m).reg))) rfl fun _ => by rw [hg, reg8_num_ofNum], nofun⟩

theorem regRm8_encodes {g : Reg8 → Rm8 → Instr} (hg : ∀ r rm, encode (g r rm) = opc :: rm.bytes8 r.num) :
    (Entry.modrm (regRm8 g)).Encodes opc :=
  fun _ => ⟨plain8_encodes (g := g _) rfl fun _ => by rw [hg, reg8_num_ofNum], nofun⟩

theorem rmReg16_encodes {g : Rm16 → Reg16 → Instr} (hg : ∀ rm r, encode (g rm r) = opc :: rm.bytes16 r.num) :
    (Entry.modrm (rmReg16 g)).Encodes opc :=
  fun m =>
    ⟨plain16_encodes (g := (g · (Reg16.ofNum (ModRM.ofByte m).reg))) rfl fun _ => by rw [hg, reg16_num_ofNum], nofun⟩

theorem regRm16_encodes {g : Reg16 → Rm16 → Instr} (hg : ∀ r rm, encode (g r rm) = opc :: rm.bytes16 r.num) :
    (Entry.modrm (regRm16 g)).Encodes opc :=
  fun _ => ⟨plain16_encodes (g := g _) rfl fun _ => by rw [hg, reg16_num_ofNum], nofun⟩

end

/-- A reg field that is none of 0 to 6 is 7. -/
theorem reg_eq_seven {n : BitVec 3} (h0 : ¬n.toNat = 0) (h1 : ¬n.toNat = 1) (h2 : ¬n.toNat = 2) (h3 : ¬n.toNat = 3)
    (h4 : ¬n.toNat = 4) (h5 : ¬n.toNat = 5) (h6 : ¬n.toNat = 6) : n.toNat = 7 := by
  have := n.isLt
  omega

theorem group80_encodes (m : ModRM) : (group80 m).Encodes 0x80 m.reg := by
  fun_cases group80 m
  case case8 h0 h1 h2 h3 h4 h5 h6 =>
    exact rm8Imm8_encodes (reg := 7) (reg_eq_seven h0 h1 h2 h3 h4 h5 h6) fun _ _ => rfl
  all_goals exact rm8Imm8_encodes ‹_› fun _ _ => rfl

theorem group81_encodes (m : ModRM) : (group81 m).Encodes 0x81 m.reg := by
  fun_cases group81 m
  case case8 h0 h1 h2 h3 h4 h5 h6 =>
    exact rm16Imm16_encodes (reg := 7) (reg_eq_seven h0 h1 h2 h3 h4 h5 h6) fun _ _ => rfl
  all_goals exact rm16Imm16_encodes ‹_› fun _ _ => rfl

theorem group83_encodes (m : ModRM) : (group83 m).Encodes 0x83 m.reg := by
  fun_cases group83 m
  case case8 h0 h1 h2 h3 h4 h5 h6 =>
    exact rm16Imm8_encodes (reg := 7) (reg_eq_seven h0 h1 h2 h3 h4 h5 h6) fun _ _ => rfl
  all_goals exact rm16Imm8_encodes ‹_› fun _ _ => rfl

theorem group8C_encodes (m : ModRM) : (group8C m).Encodes 0x8C m.reg := by
  fun_cases group8C m
  case case1 sr h =>
    exact plain16_encodes (g := (.movRm16Sreg · sr)) rfl fun _ => by rw [← segReg_num3_ofNum3? h]; rfl
  case case2 => trivial

theorem group8D_encodes (m : ModRM) : (group8D m).Encodes 0x8D m.reg :=
  fun ref => by simp only [encode, reg16_num_ofNum]

theorem group8E_encodes (m : ModRM) : (group8E m).Encodes 0x8E m.reg := by
  fun_cases group8E m
  case case4 => trivial
  all_goals exact plain16_encodes ‹_› fun _ => rfl

theorem group8F_encodes (m : ModRM) : (group8F m).Encodes 0x8F m.reg := by
  fun_cases group8F m
  case case1 h => exact plain16_encodes h fun _ => rfl
  case case2 => trivial

theorem groupC6_encodes (m : ModRM) : (groupC6 m).Encodes 0xC6 m.reg := by
  fun_cases groupC6 m
  case case1 h => exact rm8Imm8_encodes h fun _ _ => rfl
  case case2 => trivial

theorem groupC7_encodes (m : ModRM) : (groupC7 m).Encodes 0xC7 m.reg := by
  fun_cases groupC7 m
  case case1 h => exact rm16Imm16_encodes h fun _ _ => rfl
  case case2 => trivial

theorem groupF6_encodes (m : ModRM) : (groupF6 m).Encodes 0xF6 m.reg := by
  fun_cases groupF6 m
  case case1 h => exact rm8Imm8_encodes h fun _ _ => rfl
  case case8 => trivial
  all_goals exact plain8_encodes ‹_› fun _ => rfl

theorem groupF7_encodes (m : ModRM) : (groupF7 m).Encodes 0xF7 m.reg := by
  fun_cases groupF7 m
  case case1 h => exact rm16Imm16_encodes h fun _ _ => rfl
  case case8 => trivial
  all_goals exact plain16_encodes ‹_› fun _ => rfl

theorem groupFE_encodes (m : ModRM) : (groupFE m).Encodes 0xFE m.reg := by
  fun_cases groupFE m
  case case3 => trivial
  all_goals exact plain8_encodes ‹_› fun _ => rfl

theorem groupFF_encodes (m : ModRM) : (groupFF m).Encodes 0xFF m.reg := by
  fun_cases groupFF m
  case case6 => trivial
  all_goals exact plain16_encodes ‹_› fun _ => rfl

/-- Group 1 has no forbidden ModRM byte (R144). -/
theorem group1_rejects (m : ModRM) :
    (group80 m).rejects m = false ∧ (group81 m).rejects m = false ∧ (group83 m).rejects m = false := by
  refine ⟨?_, ?_, ?_⟩
  · fun_cases group80 m <;> rfl
  · fun_cases group81 m <;> rfl
  · fun_cases group83 m <;> rfl

/-! ## The opcode map, row by row -/

/-- The opcode byte in row `hi` and column `lo` of the opcode map (R165). -/
def opcodeAt (hi lo : Nat) : Byte := BitVec.ofNat 8 (16 * hi + lo)

theorem opcodeRow0_encodes (n : Nat) : (opcodeRow0 n).Encodes (opcodeAt 0x0 n) := by
  fun_cases opcodeRow0 n
  case case1 | case9 => exact rmReg8_encodes fun _ _ => rfl
  case case2 | case10 => exact rmReg16_encodes fun _ _ => rfl
  case case3 | case11 => exact regRm8_encodes fun _ _ => rfl
  case case4 | case12 => exact regRm16_encodes fun _ _ => rfl
  case case5 | case6 | case13 | case14 => exact fun _ => rfl
  case case7 | case8 | case15 => rfl
  case case16 => trivial

theorem opcodeRow1_encodes {n : Nat} (hn : n < 16) : (opcodeRow1 n).Encodes (opcodeAt 0x1 n) := by
  fun_cases opcodeRow1 n
  case case1 | case9 => exact rmReg8_encodes fun _ _ => rfl
  case case2 | case10 => exact rmReg16_encodes fun _ _ => rfl
  case case3 | case11 => exact regRm8_encodes fun _ _ => rfl
  case case4 | case12 => exact regRm16_encodes fun _ _ => rfl
  case case5 | case6 | case13 | case14 => exact fun _ => rfl
  case case7 | case8 | case15 => rfl
  case case16 =>
    obtain rfl : n = 15 := by
      simp only [imp_false] at *
      omega
    rfl

theorem opcodeRow2_encodes (n : Nat) : (opcodeRow2 n).Encodes (opcodeAt 0x2 n) := by
  fun_cases opcodeRow2 n
  case case1 | case8 => exact rmReg8_encodes fun _ _ => rfl
  case case2 | case9 => exact rmReg16_encodes fun _ _ => rfl
  case case3 | case10 => exact regRm8_encodes fun _ _ => rfl
  case case4 | case11 => exact regRm16_encodes fun _ _ => rfl
  case case5 | case6 | case12 | case13 => exact fun _ => rfl
  case case7 | case14 => rfl
  case case15 => trivial

theorem opcodeRow3_encodes (n : Nat) : (opcodeRow3 n).Encodes (opcodeAt 0x3 n) := by
  fun_cases opcodeRow3 n
  case case1 | case8 => exact rmReg8_encodes fun _ _ => rfl
  case case2 | case9 => exact rmReg16_encodes fun _ _ => rfl
  case case3 | case10 => exact regRm8_encodes fun _ _ => rfl
  case case4 | case11 => exact regRm16_encodes fun _ _ => rfl
  case case5 | case6 | case12 | case13 => exact fun _ => rfl
  case case7 | case14 => rfl
  case case15 => trivial

theorem opcodeRow4_encodes {n : Nat} (hn : n < 16) : (opcodeRow4 n).Encodes (opcodeAt 0x4 n) := by
  interval_cases n <;> rfl

theorem opcodeRow5_encodes {n : Nat} (hn : n < 16) : (opcodeRow5 n).Encodes (opcodeAt 0x5 n) := by
  interval_cases n <;> rfl

theorem opcodeRow7_encodes {n : Nat} (hn : n < 16) : (opcodeRow7 n).Encodes (opcodeAt 0x7 n) := by
  interval_cases n <;> exact fun _ => rfl

theorem opcodeRow8_encodes (n : Nat) : (opcodeRow8 n).Encodes (opcodeAt 0x8 n) := by
  fun_cases opcodeRow8 n
  case case1 => exact fun m => ⟨group80_encodes _, by simp [group1_rejects]⟩
  case case2 => exact fun m => ⟨group81_encodes _, by simp [group1_rejects]⟩
  case case3 => exact fun m => ⟨group83_encodes _, by simp [group1_rejects]⟩
  case case4 | case6 | case8 => exact rmReg8_encodes fun _ _ => rfl
  case case5 | case7 | case9 => exact rmReg16_encodes fun _ _ => rfl
  case case10 => exact regRm8_encodes fun _ _ => rfl
  case case11 => exact regRm16_encodes fun _ _ => rfl
  case case12 => exact fun m => ⟨group8C_encodes _, (group8C_rejects m).symm.trans⟩
  case case13 => exact fun m => ⟨group8D_encodes _, (group8D_rejects m).symm.trans⟩
  case case14 => exact fun m => ⟨group8E_encodes _, (group8E_rejects m).symm.trans⟩
  case case15 => exact fun m => ⟨group8F_encodes _, (group8F_rejects m).symm.trans⟩
  case case16 => trivial

theorem opcodeRow9_encodes (n : Nat) : (opcodeRow9 n).Encodes (opcodeAt 0x9 n) := by
  fun_cases opcodeRow9 n
  case case15 => trivial
  all_goals rfl

theorem opcodeRowA_encodes (n : Nat) : (opcodeRowA n).Encodes (opcodeAt 0xA n) := by
  fun_cases opcodeRowA n
  case case7 => trivial
  all_goals exact fun _ => rfl

theorem opcodeRowB_encodes {n : Nat} (hn : n < 16) : (opcodeRowB n).Encodes (opcodeAt 0xB n) := by
  interval_cases n <;> exact fun _ => rfl

theorem opcodeRowC_encodes (n : Nat) : (opcodeRowC n).Encodes (opcodeAt 0xC n) := by
  fun_cases opcodeRowC n
  case case1 => exact fun _ => rfl
  case case2 => rfl
  case case3 => exact fun m => ⟨groupC6_encodes _, (groupC6_rejects m).symm.trans⟩
  case case4 => exact fun m => ⟨groupC7_encodes _, (groupC7_rejects m).symm.trans⟩
  case case5 => trivial

theorem opcodeRowE_encodes (n : Nat) : (opcodeRowE n).Encodes (opcodeAt 0xE n) := by
  fun_cases opcodeRowE n
  case case8 => trivial
  all_goals exact fun _ => rfl

theorem opcodeRowF_encodes (n : Nat) : (opcodeRowF n).Encodes (opcodeAt 0xF n) := by
  fun_cases opcodeRowF n
  case case3 => exact fun m => ⟨groupF6_encodes _, (groupF6_rejects m).symm.trans⟩
  case case4 => exact fun m => ⟨groupF7_encodes _, (groupF7_rejects m).symm.trans⟩
  case case11 => exact fun m => ⟨groupFE_encodes _, (groupFE_rejects m).symm.trans⟩
  case case12 => exact fun m => ⟨groupFF_encodes _, (groupFF_rejects m).symm.trans⟩
  case case13 => trivial
  all_goals rfl

/-- The row of an opcode byte is bits 7:4, its column bits 3:0. -/
theorem encodes_of_row {row : Nat → Entry} {hi : Nat} (hrow : ∀ {n}, n < 16 → (row n).Encodes (opcodeAt hi n))
    {opc : Byte} (h : opc.toNat / 16 = hi) : (row (opc.toNat % 16)).Encodes opc := by
  have hopc : opcodeAt hi (opc.toNat % 16) = opc := by
    rw [opcodeAt, ← h, Nat.div_add_mod, BitVec.ofNat_toNat, BitVec.setWidth_eq]
  have := hrow (Nat.mod_lt opc.toNat (by decide : 16 > 0))
  rwa [hopc] at this

theorem opcodeEntry_encodes {opc : Byte} {e : Entry} (h : opcodeEntry opc = e) : e.Encodes opc := by
  subst h
  fun_cases opcodeEntry opc
  case case1 h => exact encodes_of_row (fun _ => opcodeRow0_encodes _) h
  case case2 h => exact encodes_of_row opcodeRow1_encodes h
  case case3 h => exact encodes_of_row (fun _ => opcodeRow2_encodes _) h
  case case4 h => exact encodes_of_row (fun _ => opcodeRow3_encodes _) h
  case case5 h => exact encodes_of_row opcodeRow4_encodes h
  case case6 h => exact encodes_of_row opcodeRow5_encodes h
  case case7 => trivial
  case case8 h => exact encodes_of_row opcodeRow7_encodes h
  case case9 h => exact encodes_of_row (fun _ => opcodeRow8_encodes _) h
  case case10 h => exact encodes_of_row (fun _ => opcodeRow9_encodes _) h
  case case11 h => exact encodes_of_row (fun _ => opcodeRowA_encodes _) h
  case case12 h => exact encodes_of_row opcodeRowB_encodes h
  case case13 h => exact encodes_of_row (fun _ => opcodeRowC_encodes _) h
  case case14 => trivial
  case case15 h => exact encodes_of_row (fun _ => opcodeRowE_encodes _) h
  case case16 =>
    have h : opc.toNat / 16 = 15 := by
      have := opc.isLt
      simp only [imp_false] at *
      omega
    exact encodes_of_row (fun _ => opcodeRowF_encodes _) h

/-! ## The decoder -/

/-- What the decoder answers after an opcode byte and a ModRM byte. -/
theorem decodeModrm_ok {opc m : Byte} {e : ModEntry} {bs rest : List Byte} {i : Instr} (hw : e.MakesWf)
    (he : e.Encodes opc (ModRM.ofByte m).reg) (hr : e.rejects (.ofByte m) = true → forbiddenModrm opc m = true)
    (h : decodeModrm opc m e bs = .ok i rest) : i.wf = true ∧ encode i ++ rest = opc :: m :: bs := by
  revert h
  fun_cases decodeModrm opc m e bs <;> rintro ⟨⟩
  case case1 => exact ⟨hr rfl, rfl⟩
  case case2 f ea hea =>
    obtain ⟨hm, rfl⟩ := readEa_some hea
    exact ⟨hw _ (readEa_wf hea), by simp [he ea, hm]⟩
  case case4 f ref hea =>
    obtain ⟨hm, rfl⟩ := readEa_some hea
    exact ⟨hw _ (readEa_wf hea), by simp [he ref, memRef_bytes_eq, hm]⟩
  case case5 f n _ hea =>
    obtain ⟨hm, _⟩ := readEa_some hea
    have hmod : (ModRM.ofByte m).mod = 3 := by rw [← hm]; rfl
    exact ⟨hr (by simp [ModEntry.rejects, hmod]), rfl⟩
  case case7 f ea v hea =>
    obtain ⟨hm, rfl⟩ := readEa_some hea
    exact ⟨hw _ _ (readEa_wf hea), by simp [he ea v, hm]⟩
  case case9 f ea b0 b1 hea =>
    obtain ⟨hm, rfl⟩ := readEa_some hea
    exact ⟨hw _ _ (readEa_wf hea), by simp [he ea, hm]⟩

/-- Settles O2: the entry of the opcode byte says what its instructions encode to, and the operand bytes that are read
are those of the operand. -/
theorem encodeInvertsDecode : Obligations.EncodeInvertsDecode := by
  intro bs i rest h
  revert h
  fun_cases decodeUnit bs
  case case2 opc bs he =>
    rintro ⟨⟩
    exact ⟨(opcodeEntry_eq_invalid_iff opc).mp he, rfl⟩
  case case3 opc _ i he =>
    rintro ⟨⟩
    exact ⟨opcodeEntry_makesWf he, congrArg (· ++ rest) (opcodeEntry_encodes he)⟩
  case case4 opc f he v _ =>
    rintro ⟨⟩
    exact ⟨opcodeEntry_makesWf he v, congrArg (· ++ rest) (opcodeEntry_encodes he v)⟩
  case case6 opc f he b0 b1 _ =>
    rintro ⟨⟩
    have henc : encode (f (wordOf b0 b1)) = [opc, b0, b1] := by
      rw [opcodeEntry_encodes he (wordOf b0 b1), wordBytes_wordOf]
    exact ⟨opcodeEntry_makesWf he _, congrArg (· ++ rest) henc⟩
  case case8 opc f he m bs =>
    obtain ⟨henc, hrejects⟩ := opcodeEntry_encodes he m
    exact decodeModrm_ok (opcodeEntry_makesWf he _) henc hrejects
  all_goals rintro ⟨⟩

end Sys2Proof
end

section
/-! PROOFS. The whole-instruction decoder: segment overrides, lengths and rejections (30_encoding.md R120, R131, R166,
R167). -/

namespace Sys2Proof.Machine

/-! ## A segment override and the instruction after it -/

theorem encode_prefixOf (r : SegReg) : encode (prefixOf r) = prefixBytes (some r) := by cases r <;> rfl

theorem prefixBytes_length (o : Option SegReg) : (prefixBytes o).length ≤ 1 := by
  rcases o with _ | r
  · exact Nat.zero_le 1
  · cases r <;> exact Nat.le_refl 1

@[simp] theorem segPrefix?_prefixOf (r : SegReg) : (prefixOf r).segPrefix? = some r := by cases r <;> rfl

/-- What the unit `i` is read as after the segment override `o`: a second override is rejected (R131). -/
def readAfter : Option SegReg → Instr → Instr
  | none, i => i
  | some _, i => if i.segPrefix?.isNone then i else .invalid ((encode i).headD 0) none

theorem readAfter_of_not_prefix (o : Option SegReg) {i : Instr} (hi : i.segPrefix? = none) : readAfter o i = i := by
  cases o <;> simp [readAfter, hi]

theorem decodeUnit_prefix (r : SegReg) (bs : List Byte) :
    decodeUnit (prefixBytes (some r) ++ bs) = .ok (prefixOf r) bs := by
  rw [← encode_prefixOf]
  exact decodeInvertsEncode _ _ (by cases r <;> rfl)

/-- The whole-instruction decoder in terms of the one-opcode decoder (40_step_and_queue.md R212). -/
theorem decode_of_unit {o : Option SegReg} {i : Instr} {bs rest : List Byte} (h : decodeUnit bs = .ok i rest)
    (ho : o = none → i.segPrefix? = none) :
    decode (prefixBytes o ++ bs) = .ok (o.map prefixOf) (readAfter o i) rest := by
  cases o with
  | none => simp [decode, prefixBytes, readAfter, h, ho rfl]
  | some r =>
    have hne : bs ≠ [] := by rintro rfl; cases h
    obtain ⟨b, bs, rfl⟩ := List.exists_cons_of_ne_nil hne
    obtain ⟨_, hbytes⟩ := encodeInvertsDecode _ _ _ h
    by_cases hi : i.segPrefix?.isNone = true
    · simp [decode, decodeUnit_prefix, readAfter, h, hi]
    · obtain ⟨q, rfl⟩ := exists_prefixOf hi
      have hread : readAfter (some r) (prefixOf q) = .invalid b none := by cases q <;> cases hbytes <;> rfl
      simp [decode, decodeUnit_prefix, h, hread]

theorem decode_end_of_unit (o : Option SegReg) {bs : List Byte} (h : decodeUnit bs = .endOfProgram) :
    decode (prefixBytes o ++ bs) = .endOfProgram := by
  cases o with
  | none => simp [decode, prefixBytes, h]
  | some r =>
    rw [decode, decodeUnit_prefix]
    cases bs <;> simp [h]

/-- What the whole-instruction decoder has read: a segment override, if there is one, and one unit. -/
theorem exists_unit_of_decode {bs rest : List Byte} {pre : Option Instr} {i : Instr} (h : decode bs = .ok pre i rest) :
    ∃ (o : Option SegReg) (j : Instr) (bs' : List Byte), bs = prefixBytes o ++ bs' ∧ decodeUnit bs' = .ok j rest ∧
      (o = none → j.segPrefix? = none) ∧ pre = o.map prefixOf ∧ i = readAfter o j := by
  cases hp : decodeUnit bs with
  | endOfProgram => simp [decode, hp] at h
  | ok p bs' =>
    by_cases hseg : p.segPrefix?.isNone = true
    · have hnone : p.segPrefix? = none := Option.isNone_iff_eq_none.mp hseg
      have hd := decode_of_unit (o := none) hp fun _ => hnone
      cases h.symm.trans hd
      exact ⟨none, p, bs, rfl, hp, fun _ => hnone, rfl, rfl⟩
    · obtain ⟨r, rfl⟩ := exists_prefixOf hseg
      obtain ⟨_, hbytes⟩ := encodeInvertsDecode _ _ _ hp
      rw [encode_prefixOf] at hbytes
      subst hbytes
      cases hj : decodeUnit bs' with
      | endOfProgram => cases h.symm.trans (decode_end_of_unit (some r) hj)
      | ok j rest' =>
        cases h.symm.trans (decode_of_unit (o := some r) hj nofun)
        exact ⟨some r, j, bs', rfl, hj, nofun, rfl, rfl⟩

/-- Settles O3: the override byte is read first, and `decodeInvertsEncode` says what is read after it. -/
theorem prefixedInstructionRoundTrip : Obligations.PrefixedInstructionRoundTrip := by
  intro pre i rest hw hi
  have h := decode_of_unit (o := pre) (decodeInvertsEncode i rest hw) fun _ => hi
  rwa [readAfter_of_not_prefix pre hi, ← List.append_assoc] at h

/-! ## Length and self-delimitation -/

theorem readEa_length {m : ModRM} {bs rest : List Byte} {ea : RawEa} (h : readEa m bs = some (ea, rest)) :
    rest.length ≤ bs.length ∧ bs.length ≤ rest.length + 2 := by
  obtain ⟨_, rfl⟩ := readEa_some h
  have := disp_length ea
  simp only [List.length_append]
  omega

theorem decodeModrm_length {opc m : Byte} {e : ModEntry} {bs rest : List Byte} {i : Instr}
    (h : decodeModrm opc m e bs = .ok i rest) : rest.length ≤ bs.length ∧ bs.length ≤ rest.length + 4 := by
  revert h
  fun_cases decodeModrm opc m e bs <;> rintro ⟨⟩
  case case1 | case5 => omega
  case case2 hea | case4 hea =>
    have := readEa_length hea
    omega
  case case7 hea | case9 hea =>
    have := readEa_length hea
    simp only [List.length_cons] at this
    omega

/-- One opcode with its operands has 1 to 6 bytes (R120). -/
theorem decodeUnit_length {bs rest : List Byte} {i : Instr} (h : decodeUnit bs = .ok i rest) :
    rest.length + 1 ≤ bs.length ∧ bs.length ≤ rest.length + 6 := by
  revert h
  fun_cases decodeUnit bs
  case case8 =>
    intro h
    have := decodeModrm_length h
    simp only [List.length_cons]
    omega
  all_goals rintro ⟨⟩ <;> simp only [List.length_cons] <;> omega

/-- Fewer bytes than an encoding has are no instruction: what they would be read as would be the front of the encoding,
and the rest of the encoding would be left over (R130). -/
theorem decodeUnit_take_encode {i : Instr} (hi : i.wf = true) {n : Nat} (hn : n < (encode i).length) :
    decodeUnit ((encode i).take n) = .endOfProgram := by
  cases hj : decodeUnit ((encode i).take n) with
  | endOfProgram => rfl
  | ok j rest =>
    obtain ⟨hjw, hbytes⟩ := encodeInvertsDecode _ _ _ hj
    have hfull : encode i ++ [] = encode j ++ (rest ++ (encode i).drop n) := by
      rw [← List.append_assoc, hbytes, List.take_append_drop, List.append_nil]
    have hi' := decodeInvertsEncode i [] hi
    rw [hfull, decodeInvertsEncode j _ hjw] at hi'
    obtain ⟨_, hleft⟩ := Decoded.ok.inj hi'
    obtain ⟨_, hdrop⟩ := List.append_eq_nil_iff.mp hleft
    exact absurd (List.drop_eq_nil_iff.mp hdrop) (Nat.not_le.mpr hn)

/-- Settles O4: the bytes used are the override byte, if there is one, and the encoding of the unit after it. -/
theorem decodedInstructionIsSelfDelimiting : Obligations.DecodedInstructionIsSelfDelimiting := by
  intro bs pre i rest h
  obtain ⟨o, j, bs', rfl, hj, ho, rfl, rfl⟩ := exists_unit_of_decode h
  obtain ⟨hw, rfl⟩ := encodeInvertsDecode _ _ _ hj
  have hlen := decodeUnit_length hj
  have hpre := prefixBytes_length o
  simp only [List.length_append] at hlen
  refine ⟨prefixBytes o ++ encode j, by simp, ?_, ?_, fun tail => ?_, fun n hn => ?_⟩
  · simp only [List.length_append]; omega
  · simp only [List.length_append]; omega
  · rw [List.append_assoc]
    exact decode_of_unit (decodeInvertsEncode j tail hw) ho
  · simp only [List.length_append] at hn
    rw [List.take_append]
    by_cases hcut : n < (prefixBytes o).length
    · obtain rfl : n = 0 := by omega
      simp [decode, decodeUnit]
    · rw [List.take_of_length_le (Nat.le_of_not_lt hcut)]
      exact decode_end_of_unit o (decodeUnit_take_encode hw (by omega))

/-! ## Rejections -/

/-- An instruction that is no rejection has no opcode byte and no ModRM byte that R166 rules out, since these decode to
a rejection. -/
theorem encode_not_rejected {i : Instr} (hw : i.wf = true) (hi : isInvalid i = false) :
    ∃ opc tail, encode i = opc :: tail ∧ invalidOpcode opc = false ∧
      ∀ m tail', tail = m :: tail' → forbiddenModrm opc m = false := by
  have hdec := decodeInvertsEncode i [] hw
  cases henc : encode i with
  | nil => rw [henc] at hdec; cases hdec
  | cons opc tail =>
    rw [henc, List.append_nil] at hdec
    refine ⟨opc, tail, rfl, Bool.eq_false_iff.mpr fun hopc => ?_, ?_⟩
    · cases hdec.symm.trans (decodeUnit_invalid (modrm := none) hopc tail)
      cases hi
    · rintro m tail' rfl
      refine Bool.eq_false_iff.mpr fun hm => ?_
      cases hdec.symm.trans (decodeUnit_invalid (modrm := some m) hm tail')
      cases hi

/-- What is read after a segment override and is no rejection is the unit itself. -/
theorem readAfter_eq_of_valid {o : Option SegReg} {j : Instr} (h : isInvalid (readAfter o j) = false) :
    readAfter o j = j := by
  cases o with
  | none => rfl
  | some r =>
    by_cases hj : j.segPrefix?.isNone = true
    · exact if_pos hj
    · rw [readAfter, if_neg hj] at h
      cases h

/-- Settles O5: each rejected encoding is the encoding of its `invalid`, and no other instruction is encoded so. -/
theorem rejectedEncodingsRaiseInvalidOpcode : Obligations.RejectedEncodingsRaiseInvalidOpcode := by
  refine ⟨fun pre opc rest h => ?_, fun pre opc m rest h => ?_, fun p q rest => ?_, fun bs pre i rest h hi => ?_,
    fun opc m s => ⟨_, rfl, faultTaken_raise s .invalidOpcode opc⟩⟩
  · simpa [encode] using prefixedInstructionRoundTrip pre (.invalid opc none) rest h rfl
  · simpa [encode] using prefixedInstructionRoundTrip pre (.invalid opc (some m)) rest h rfl
  · have h := decode_of_unit (o := some p) (decodeUnit_prefix q rest) nofun
    cases q <;> exact ⟨_, rfl, h⟩
  · obtain ⟨o, j, bs', rfl, hj, _, rfl, rfl⟩ := exists_unit_of_decode h
    obtain ⟨hw, _⟩ := encodeInvertsDecode _ _ _ hj
    have hread := readAfter_eq_of_valid hi
    rw [hread] at hi ⊢
    exact encode_not_rejected hw hi

end Sys2Proof.Machine
end

section
/-! PROOFS. The effective address, and what a segment override changes (30_encoding.md R125, R126, R131). -/

namespace Sys2Proof.Machine

/-! ## The effective address -/

/-- The register sum is the exact sum mod 65536 (R125). -/
theorem eaBase_eq_ofInt (s : State) (b : EaBase) : s.eaBase b = BitVec.ofInt 16 (eaRegs s b) := by
  cases b <;> simp [State.eaBase, eaRegs, BitVec.ofInt_add]

theorem ea_eq_ofInt (s : State) (m : MemRef) : s.ea m = BitVec.ofInt 16 (eaSum s m) := by
  cases m with
  | base b => exact eaBase_eq_ofInt s b
  | direct off => simp [State.ea, eaSum]
  | disp8 b d => rw [eaSum, BitVec.ofInt_add, ← eaBase_eq_ofInt]; rfl
  | disp16 b d => rw [eaSum, BitVec.ofInt_add, ← eaBase_eq_ofInt]; simp [State.ea]

theorem dataSeg_of_none {s : State} (h : s.segOverride = none) : s.dataSeg = s.sreg .ds := by simp [State.dataSeg, h]

theorem dataSeg_of_some {s : State} {r : SegReg} (h : s.segOverride = some r) : s.dataSeg = s.sreg r := by
  simp [State.dataSeg, h]

/-- Settles O13: each sum mod 65536 is the sum of its parts, and every memory form has the one data segment. -/
theorem effectiveAddressAndDataSegment : Obligations.EffectiveAddressAndDataSegment := by
  intro s m
  refine ⟨ea_eq_ofInt s m, fun h => ?_, fun r h => ?_⟩
  · simp only [State.place, dataSeg_of_none h, and_self]
  · simp only [State.place, dataSeg_of_some h, and_self]

/-! ## Instructions without a memory operand -/

/-- The same next state, `segOverride` apart. -/
def SameUnderOverride (o : Option SegReg) (r r' : Result) : Prop :=
  ∃ t, r = .next t ∧ r' = .next { t with segOverride := o }

section
variable {o : Option SegReg}

theorem sameUnderOverride_next (t : State) : SameUnderOverride o (.next t) (.next { t with segOverride := o }) :=
  ⟨t, rfl, rfl⟩

theorem sameUnderOverride_ite {c : Prop} [Decidable c] {r₁ r₂ r₁' r₂' : Result} (h₁ : SameUnderOverride o r₁ r₁')
    (h₂ : SameUnderOverride o r₂ r₂') : SameUnderOverride o (if c then r₁ else r₂) (if c then r₁' else r₂') := by
  split
  · exact h₁
  · exact h₂

theorem sameUnderOverride_jumpIf (c : Bool) (rel : Byte) (s : State) :
    SameUnderOverride o (jumpIf c rel s) (jumpIf c rel { s with segOverride := o }) := by
  cases c <;> exact sameUnderOverride_next _

end

theorem exists_reg_of_not_isMem {ρ : Type} {rm : Rm ρ} (h : Rm.isMem rm = false) : ∃ r, rm = .reg r := by
  cases rm with
  | reg r => exact ⟨r, rfl⟩
  | mem m => cases h

/-- Every instruction with no memory operand, by what its meaning ends in: a stack check or a division check that may
raise, a conditional transfer, or else one next state. None of them reads `segOverride`, LEA's effective address
included. -/
theorem exec_sameUnderOverride {i : Instr} (hm : memOperand i = false) (hp : i.segPrefix? = none) (s : State)
    (o : Option SegReg) : SameUnderOverride o (exec i s) (exec i { s with segOverride := o }) := by
  cases i
  case prefixEs | prefixCs | prefixSs | prefixDs => cases hp
  case movAlMoffs8 | movAxMoffs16 | movMoffs8Al | movMoffs16Ax => cases hm
  case pushEs | pushCs | pushSs | pushDs | pushAx | pushCx | pushDx | pushBx | pushSp | pushBp | pushSi | pushDi
      | pushf | popEs | popSs | popDs | popAx | popCx | popDx | popBx | popSp | popBp | popSi | popDi | popf | callRel16
      | ret | retImm16 =>
    exact sameUnderOverride_ite (sameUnderOverride_next _) (sameUnderOverride_next _)
  case pushRm16 | popRm16 | callRm16 | divRm8 | divRm16 | idivRm8 | idivRm16 =>
    obtain ⟨r, rfl⟩ := exists_reg_of_not_isMem hm
    exact sameUnderOverride_ite (sameUnderOverride_next _) (sameUnderOverride_next _)
  case joRel8 | jnoRel8 | jbRel8 | jaeRel8 | jeRel8 | jneRel8 | jbeRel8 | jaRel8 | jsRel8 | jnsRel8 | jpRel8 | jnpRel8
      | jlRel8 | jgeRel8 | jleRel8 | jgRel8 | jcxzRel8 =>
    exact sameUnderOverride_jumpIf _ _ s
  case loopRel8 | loopeRel8 | loopneRel8 => exact sameUnderOverride_jumpIf _ _ (s.setX16 .cx (s.x16 .cx - 1))
  case addAlImm8 | orAlImm8 | adcAlImm8 | sbbAlImm8 | andAlImm8 | subAlImm8 | xorAlImm8 | cmpAlImm8 | testAlImm8
      | addAxImm16 | orAxImm16 | adcAxImm16 | sbbAxImm16 | andAxImm16 | subAxImm16 | xorAxImm16 | cmpAxImm16
      | testAxImm16 | incAx | incCx | incDx | incBx | incSp | incBp | incSi | incDi | decAx | decCx | decDx | decBx
      | decSp | decBp | decSi | decDi | leaR16M | nop | xchgAxCx | xchgAxDx | xchgAxBx | xchgAxSp | xchgAxBp | xchgAxSi
      | xchgAxDi | cbw | cwd | sahf | lahf | movAlImm8 | movClImm8 | movDlImm8 | movBlImm8 | movAhImm8 | movChImm8
      | movDhImm8 | movBhImm8 | movAxImm16 | movCxImm16 | movDxImm16 | movBxImm16 | movSpImm16 | movBpImm16 | movSiImm16
      | movDiImm16 | jmpRel16 | jmpRel8 | hlt | cmc | clc | stc | cli | sti | cld | std | invalid =>
    exact sameUnderOverride_next _
  all_goals
    obtain ⟨r, rfl⟩ := exists_reg_of_not_isMem hm
    exact sameUnderOverride_next _

/-- Settles O14: the four override instructions write `segOverride` and nothing else, and only a memory operand reads
it. -/
theorem segmentOverridePrefixes : Obligations.SegmentOverridePrefixes :=
  ⟨fun s r => ⟨by cases r <;> rfl, rfl⟩, fun _ s o hm hp => exec_sameUnderOverride hm hp s o⟩

end Sys2Proof.Machine
end

section
/-! PROOFS. The prefetch queue: which bytes a top-up appends and which byte `fetchByte` delivers (40_step_and_queue.md R210,
R213). -/

namespace Sys2Proof.Machine

/-! ## The top-up -/

/-- `s` with the `n` bytes from CS:IP on appended to its queue (40_step_and_queue.md R210). -/
def State.fetched (s : State) (n : Nat) : State :=
  { s with
    queue := s.queue ++ (List.range n).map fun k => s.memRead8 (s.sreg .cs) (s.ip + BitVec.ofNat 16 k)
    ip := s.ip + BitVec.ofNat 16 n }

/-- A tick appends no byte: the queue is full or IP is outside the window (40_step_and_queue.md R210). -/
def State.FetchStopped (s : State) : Prop := s.queueCap ≤ s.queue.length ∨ s.inWindow s.ip = false

theorem inWindow_eq_true_iff (s : State) (o : Word) : s.inWindow o = true ↔ s.codeLo ≤ o.toNat ∧ o.toNat < s.codeHi := by
  simp [State.inWindow]

@[simp] theorem fetched_zero (s : State) : s.fetched 0 = s := by simp [State.fetched]

/-- One tick more appends the next byte. -/
theorem fetched_succ (s : State) (n : Nat) :
    s.fetched (n + 1) =
      { s.fetched n with
        queue := (s.fetched n).queue ++ [(s.fetched n).memRead8 ((s.fetched n).sreg .cs) (s.fetched n).ip]
        ip := (s.fetched n).ip + 1 } := by
  simp only [State.fetched, List.range_succ, List.map_append, List.map_singleton, List.append_assoc, BitVec.ofNat_add,
    BitVec.add_assoc]
  rfl

theorem fetched_length (s : State) (n : Nat) : (s.fetched n).queue.length = s.queue.length + n := by
  simp [State.fetched]

theorem prefetchTicks_succ (n : Nat) (s : State) : s.prefetchTicks (n + 1) = (s.prefetchTicks n).prefetchTick := by
  induction n generalizing s with
  | zero => rfl
  | succ n ih => exact ih s.prefetchTick

/-- Ticks append one byte each, in order, until fetching stops. -/
theorem prefetchTicks_eq_fetched (m : Nat) (s : State) :
    ∃ n, s.prefetchTicks m = s.fetched n ∧ n ≤ m ∧ (∀ k, k < n → s.inWindow (s.ip + BitVec.ofNat 16 k) = true) ∧
      (n = m ∨ (s.fetched n).FetchStopped) := by
  induction m with
  | zero => exact ⟨0, (fetched_zero s).symm, Nat.le_refl 0, nofun, .inl rfl⟩
  | succ m ih =>
    obtain ⟨n, hticks, hle, hwin, hend⟩ := ih
    rw [prefetchTicks_succ, hticks]
    rcases prefetchTick_cases (s.fetched n) with ⟨hroom, hin, htick⟩ | ⟨hstop, htick⟩
    · obtain rfl : n = m := hend.resolve_right fun hstop => by
        rcases hstop with hfull | hout
        · exact absurd hroom (Nat.not_lt.mpr hfull)
        · exact absurd hin (Bool.eq_false_iff.mp hout)
      refine ⟨n + 1, htick.trans (fetched_succ s n).symm, Nat.le_refl _, fun k hk => ?_, .inl rfl⟩
      rcases Nat.lt_succ_iff_lt_or_eq.mp hk with hk | rfl
      · exact hwin k hk
      · exact hin
    · exact ⟨n, htick, Nat.le_succ_of_le hle, hwin, .inr hstop⟩

/-- The top-up appends bytes from CS:IP on, as many as there is room for and the window allows. -/
theorem topUp_eq_fetched (s : State) :
    ∃ n, s.topUp = s.fetched n ∧ n ≤ s.queueCap - s.queue.length ∧
      (∀ k, k < n → s.inWindow (s.ip + BitVec.ofNat 16 k) = true) ∧ (s.fetched n).FetchStopped := by
  obtain ⟨n, htop, hle, hwin, hend⟩ := prefetchTicks_eq_fetched (s.queueCap - s.queue.length) s
  refine ⟨n, htop, hle, hwin, hend.elim (fun hfull => .inl ?_) id⟩
  have hcap : s.queueCap ≤ s.queue.length + n := by omega
  rwa [← fetched_length] at hcap

/-- Settles O17: a tick has its two cases, and the top-up is ticks one after another until fetching stops. -/
theorem topUpFillsTheQueue : Obligations.TopUpFillsTheQueue := by
  intro s
  simp only [← inWindow_eq_true_iff]
  refine ⟨fun ⟨hroom, hin⟩ => ?_, fun hno => ?_, ?_⟩
  · exact if_pos (by simp [hroom, hin])
  · exact if_neg (by simpa using hno)
  · obtain ⟨n, htop, hle, hwin, hstop⟩ := topUp_eq_fetched s
    rw [htop]
    exact ⟨n, rfl, hle, hwin, hstop⟩

/-! ## The next instruction byte -/

theorem fetchByte_of_cons {s : State} {b : Byte} {q : List Byte} (h : s.queue = b :: q) :
    s.fetchByte = some (b, { s with queue := q }) := by
  simp [State.fetchByte, h]

/-- An empty queue is topped up first (40_step_and_queue.md R213). -/
theorem fetchByte_of_topUp {s : State} {b : Byte} {q : List Byte} (h : s.queue = []) (ht : s.topUp.queue = b :: q) :
    s.fetchByte = some (b, { s.topUp with queue := q }) := by
  simp [State.fetchByte, h, ht]

/-- With an empty queue and IP inside the window the top-up starts with the byte at CS:IP. -/
theorem topUp_queue_of_inWindow {s : State} (hcap : 1 ≤ s.queueCap) (hq : s.queue = []) (hin : s.inWindow s.ip = true) :
    ∃ q, s.topUp.queue = s.memRead8 (s.sreg .cs) s.ip :: q := by
  obtain ⟨n, htop, _, _, hstop⟩ := topUp_eq_fetched s
  cases n with
  | zero =>
    have hfull : s.queueCap = 0 := by simpa [State.FetchStopped, hq, hin] using hstop
    omega
  | succ n =>
    rw [htop]
    simp [State.fetched, hq, List.range_succ_eq_map]

/-- With IP outside the window the top-up changes nothing. -/
theorem topUp_of_not_inWindow {s : State} (hout : s.inWindow s.ip = false) : s.topUp = s := by
  obtain ⟨n, htop, _, hwin, _⟩ := topUp_eq_fetched s
  cases n with
  | zero => rw [htop, fetched_zero]
  | succ n =>
    have hin := hwin 0 (Nat.succ_pos n)
    simp [hout] at hin

/-- An empty queue that no tick can fill ends the program (40_step_and_queue.md R213). -/
theorem fetchByte_eq_none {s : State} (hq : s.queue = []) (hout : s.inWindow s.ip = false) : s.fetchByte = none := by
  simp [State.fetchByte, topUp_of_not_inWindow hout, hq]

/-- Removing the front of the queue moves archIP by one (40_step_and_queue.md R213). -/
theorem archIp_dropFront {s : State} {b : Byte} {q : List Byte} (h : s.queue = b :: q) :
    ({ s with queue := q } : State).archIp = s.archIp + 1 := by
  simp only [State.archIp, h, List.length_cons, BitVec.ofNat_add]
  bv_omega

theorem archIp_fetchByte {s t : State} {b : Byte} (h : s.fetchByte = some (b, t)) : t.archIp = s.archIp + 1 := by
  obtain ⟨u, hu, hq, ht⟩ := fetchByte_some h
  have hsu : u.archIp = s.archIp := by
    rcases hu with rfl | rfl
    · rfl
    · exact archIp_topUp s
  rw [ht, archIp_dropFront hq, hsu]

/-- Settles O18: the queue's front, else the first byte of the top-up, else the end of the program. -/
theorem fetchByteDeliversTheNextByte : Obligations.FetchByteDeliversTheNextByte := by
  intro s hcap
  refine ⟨fun b q => fetchByte_of_cons, fun hq hin => ?_, fetchByte_eq_none, fun b t => archIp_fetchByte⟩
  obtain ⟨q, ht⟩ := topUp_queue_of_inWindow hcap hq hin
  exact ⟨_, fetchByte_of_topUp hq ht, ht, rfl⟩

/-! ## The capacity -/

theorem load_queue {img : Image} {cfg : LoadConfig} {s t : State} (h : load img cfg s = (t, .ok)) : t.queue = [] := by
  by_cases hv : validLoad img cfg
  · cases (load_of_valid hv s).symm.trans h
    rfl
  · cases (load_of_invalid hv s).symm.trans h

theorem hostReset_queue {s t : State} (h : hostReset s = (t, .ok)) : t.queue = [] := by
  by_cases hs : s.status = .noImage
  · cases (if_pos hs).symm.trans h
  · exact load_queue ((if_neg hs).symm.trans h)

/-- No instruction puts bytes into the queue. -/
theorem queueOk_exec {i : Instr} {u v : State} (hi : i.Executable) (h : exec i u = .next v) (hu : u.queueOk) :
    v.queueOk := by
  rcases executeKeepsOrEmptiesTheQueue i u v h with ⟨hq, _⟩ | ⟨hq, _⟩
  · obtain ⟨_, _, hcap, _⟩ := exec_config hi h
    rwa [State.queueOk, hq, hcap]
  · rw [State.queueOk, hq]
    exact Nat.zero_le _

theorem StepEffect.queueOk {s t : State} (h : StepEffect s t) (hs : s.queueOk) : t.queueOk := by
  cases h with
  | halted _ same => rwa [same]
  | endOfProgram _ _ next => rw [next]; exact Nat.zero_le _
  | executed _ o i _ q p v _ hi room hv next =>
    subst next
    exact queueOk_exec (v := v) (u := s.executing o q p) hi hv (room hs)

/-- Settles O19: a load empties the queue, and neither fetching nor an instruction fills it beyond its capacity. -/
theorem queueStaysWithinCapacity : Obligations.QueueStaysWithinCapacity := by
  refine ⟨fun _ _ _ _ => load_queue, fun _ _ => hostReset_queue, fun _ _ hs h => (stepEffect_of_step h).queueOk hs,
    fun s hfull => ?_⟩
  rcases prefetchTick_cases s with ⟨hroom, _, _⟩ | ⟨_, htick⟩
  · exact absurd hfull (Nat.ne_of_lt hroom)
  · exact htick

end Sys2Proof.Machine
end

section
/-! PROOFS. The step: what is decoded, what is executed, and when there is nothing to execute (40_step_and_queue.md R200,
R201, R212 to R218). -/

namespace Sys2Proof.Machine

/-! ## The bytes that decode reads -/

theorem lookahead_of_some {s t : State} {b : Byte} (n : Nat) (h : s.fetchByte = some (b, t)) :
    s.lookahead (n + 1) = b :: t.lookahead n := by
  simp [State.lookahead, h]

theorem lookahead_of_none {s : State} (n : Nat) (h : s.fetchByte = none) : s.lookahead n = [] := by
  cases n <;> simp [State.lookahead, h]

theorem consume_of_some {s t : State} {b : Byte} (n : Nat) (h : s.fetchByte = some (b, t)) :
    s.consume (n + 1) = t.consume n := by
  simp [State.consume, h]

/-- An offset counted from the next one on. -/
theorem offset_succ (w : Word) (k : Nat) : w + 1 + BitVec.ofNat 16 k = w + BitVec.ofNat 16 (k + 1) := by
  rw [BitVec.add_assoc, Nat.add_comm, BitVec.ofNat_add, BitVec.ofNat_eq_ofNat]

/-- Consuming bytes that the lookahead has moves archIP by their number (40_step_and_queue.md R214). -/
theorem archIp_consume {n m : Nat} {s : State} (h : n ≤ (s.lookahead m).length) :
    (s.consume n).archIp = s.archIp + BitVec.ofNat 16 n := by
  induction m generalizing n s with
  | zero =>
    obtain rfl : n = 0 := Nat.le_zero.mp h
    exact (BitVec.add_zero _).symm
  | succ m ih =>
    cases n with
    | zero => exact (BitVec.add_zero _).symm
    | succ n =>
      cases hf : s.fetchByte with
      | none => simp [lookahead_of_none _ hf] at h
      | some r =>
        obtain ⟨b, t⟩ := r
        rw [lookahead_of_some m hf, List.length_cons] at h
        rw [consume_of_some n hf, ih (Nat.le_of_succ_le_succ h), archIp_fetchByte hf, offset_succ]

/-- The fill phase keeps archIP. -/
theorem archIp_beginStep (s : State) : s.beginStep.archIp = s.archIp := archIp_topUp { s with status := .running }

/-- After fill and decode only the status, the transient decode state, the queue and the BIU IP differ. -/
theorem consume_beginStep (n : Nat) (s : State) :
    s.beginStep.consume n =
      s.executing none (s.beginStep.consume n).queue (s.beginStep.consume n).ip := by
  obtain ⟨q, p, hb, _⟩ := beginStep_eq_executing s
  obtain ⟨q', p', hc, _⟩ := consume_executing n s none q p
  rw [hb, hc]
  rfl

theorem archIp_consume_beginStep {n : Nat} {s : State} (h : n ≤ s.beginStep.window.length) :
    (s.beginStep.consume n).archIp = s.archIp + BitVec.ofNat 16 n := by
  rw [archIp_consume h, archIp_beginStep]

/-! ## The step in LOADED and RUNNING -/

theorem step_of_steps {s : State} (h : s.steps) : step s = stepRunning s := by
  rcases h with h | h <;> simp [step, h]

/-- A decoded instruction runs after fill and decode, with its override set (40_step_and_queue.md R200, R216). -/
theorem step_of_decode {s : State} {pre : Option SegReg} {i : Instr} {rest : List Byte} (hs : s.steps)
    (hd : decode s.beginStep.window = .ok (pre.map prefixOf) i rest) :
    step s = finishStep
      (exec i { s.beginStep.consume (s.beginStep.window.length - rest.length) with segOverride := pre }) := by
  rw [step_of_steps hs, stepRunning]
  simp only [hd]
  rw [execInsn_map_prefixOf pre i (by rw [consume_beginStep]; rfl)]

/-- Settles O15: the state after fill and decode is that of `consume_beginStep`, and the bytes consumed are those that the
decoder has read. -/
theorem stepRunsDecodedInstruction : Obligations.StepRunsDecodedInstruction :=
  fun s _ _ _ hs hd => ⟨_, step_of_decode hs hd, consume_beginStep _ s, archIp_consume_beginStep (Nat.sub_le _ _)⟩

theorem step_of_endOfProgram {s : State} (hs : s.steps) (hd : decode s.beginStep.window = .endOfProgram) :
    step s = .next s.beginStep.endOfProgram.endStep := by
  rw [step_of_steps hs, stepRunning]
  simp only [hd]
  rfl

/-- Nothing is offered to the decoder with the queue empty and IP outside the window. -/
theorem window_eq_nil {s : State} (hq : s.queue = []) (hout : s.inWindow s.ip = false) : s.beginStep.window = [] := by
  have htop : State.topUp { s with status := .running } = { s with status := .running } := topUp_of_not_inWindow hout
  have hout' : s.beginStep.inWindow s.beginStep.ip = false := by
    change (State.topUp _).inWindow (State.topUp _).ip = false
    rwa [htop]
  exact lookahead_of_none _ (fetchByte_eq_none ((congrArg State.queue htop).trans hq) hout')

/-- Fewer bytes than a whole instruction has, its override included, are no instruction. -/
theorem decode_take_eq_endOfProgram (pre : Option SegReg) {i : Instr} (hw : i.wf = true) (hi : i.segPrefix? = none)
    {n : Nat} (hn : n < (prefixBytes pre ++ encode i).length) :
    decode ((prefixBytes pre ++ encode i).take n) = .endOfProgram := by
  obtain ⟨used, hused, _, _, _, hfewer⟩ :=
    decodedInstructionIsSelfDelimiting _ _ _ _ (prefixedInstructionRoundTrip pre i [] hw hi)
  rw [List.append_nil, List.append_nil] at hused
  exact hused ▸ hfewer n (hused ▸ hn)

/-- Settles O22: such a step abandons the instruction, and the bytes run out where none are left or too few are. -/
theorem endOfProgramHalts : Obligations.EndOfProgramHalts := by
  refine ⟨fun s hs hd => ?_, fun s hq hout => ?_, fun s pre i n hw hi hn hwindow => ?_⟩
  · obtain ⟨q, p, hb, _⟩ := beginStep_eq_executing s
    have hstep := step_of_endOfProgram hs hd
    rw [hb] at hstep
    exact ⟨_, hstep, rfl, rfl, rfl, rfl, fun _ => rfl, fun _ => rfl, rfl, fun _ => rfl, SameConfig.refl s,
      ⟨rfl, rfl, rfl⟩⟩
  · rw [window_eq_nil hq hout]
    rfl
  · rw [hwindow]
    exact decode_take_eq_endOfProgram pre hw hi hn

/-! ## The step in a coherent state -/

/-- The byte that memory holds `k` bytes after CS:archIP. -/
def State.codeByte (s : State) (k : Nat) : Byte := s.memRead8 (s.sreg .cs) (s.archIp + BitVec.ofNat 16 k)

/-- Memory holds `bs` at CS:archIP, with every one of its offsets inside the fetch window. -/
def State.Holds (s : State) (bs : List Byte) : Prop :=
  ∀ k, (h : k < bs.length) → s.inWindow (s.archIp + BitVec.ofNat 16 k) = true ∧ s.codeByte k = bs[k]

theorem queueCoherent_prefetchTick {s : State} (h : s.QueueCoherent) : s.prefetchTick.QueueCoherent := by
  have harch := archIp_prefetchTick s
  rcases prefetchTick_cases s with ⟨_, _, htick⟩ | ⟨_, htick⟩
  · rw [htick] at harch ⊢
    intro k hk
    have hlast : s.archIp + BitVec.ofNat 16 s.queue.length = s.ip := BitVec.sub_add_cancel _ _
    rw [harch]
    simp only [List.length_append, List.length_singleton] at hk
    rcases Nat.lt_succ_iff_lt_or_eq.mp hk with hk | rfl
    · exact (List.getElem_append_left hk).trans (h k hk)
    · rw [hlast]
      exact List.getElem_concat_length rfl _
  · rwa [htick]

theorem queueCoherent_prefetchTicks {n : Nat} {s : State} (h : s.QueueCoherent) : (s.prefetchTicks n).QueueCoherent := by
  induction n generalizing s with
  | zero => exact h
  | succ n ih => exact ih (queueCoherent_prefetchTick h)

theorem queueCoherent_topUp {s : State} (h : s.QueueCoherent) : s.topUp.QueueCoherent := queueCoherent_prefetchTicks h

theorem FetchOnly.exists_eq {s t : State} (h : FetchOnly s t) : ∃ q p, t = { s with queue := q, ip := p } := ⟨_, _, h⟩

/-- Fetching moves archIP and with it the place that code bytes are counted from, and nothing else about them. -/
theorem codeByte_of_fetchOnly {s t : State} (h : FetchOnly s t) (k : Nat) :
    t.codeByte k = s.memRead8 (s.sreg .cs) (t.archIp + BitVec.ofNat 16 k) := by
  obtain ⟨q, p, rfl⟩ := h.exists_eq
  rfl

theorem codeByte_topUp (s : State) (k : Nat) : s.topUp.codeByte k = s.codeByte k := by
  rw [codeByte_of_fetchOnly (fetchOnly_topUp s), archIp_topUp, State.codeByte]

theorem codeByte_fetchByte {s t : State} {b : Byte} (h : s.fetchByte = some (b, t)) (k : Nat) :
    t.codeByte k = s.codeByte (k + 1) := by
  rw [codeByte_of_fetchOnly (fetchOnly_fetchByte h), archIp_fetchByte h, offset_succ, State.codeByte]

/-- The front of a coherent queue is the byte at CS:archIP, and what is left is coherent. -/
theorem queueCoherent_dropFront {s : State} {b : Byte} {q : List Byte} (h : s.QueueCoherent) (hq : s.queue = b :: q) :
    b = s.codeByte 0 ∧ ({ s with queue := q } : State).QueueCoherent := by
  have hqueued : ∀ k, (hk : k < (b :: q).length) → (b :: q)[k] = s.codeByte k := hq ▸ h
  exact ⟨hqueued 0 (Nat.succ_pos _), fun k hk =>
    (hqueued (k + 1) (Nat.succ_lt_succ hk)).trans (codeByte_fetchByte (fetchByte_of_cons hq) k).symm⟩

/-- From a coherent queue `fetchByte` delivers the byte that memory holds at CS:archIP. -/
theorem fetchByte_of_coherent {s t : State} {b : Byte} (hs : s.QueueCoherent) (h : s.fetchByte = some (b, t)) :
    b = s.codeByte 0 ∧ t.QueueCoherent := by
  obtain ⟨u, hu, hq, ht⟩ := fetchByte_some h
  rw [ht]
  rcases hu with rfl | rfl
  · exact queueCoherent_dropFront hs hq
  · rw [← codeByte_topUp]
    exact queueCoherent_dropFront (queueCoherent_topUp hs) hq

theorem queueCoherent_consume {n : Nat} {s : State} (h : s.QueueCoherent) : (s.consume n).QueueCoherent := by
  induction n generalizing s with
  | zero => exact h
  | succ n ih =>
    cases hf : s.fetchByte with
    | none => simpa only [State.consume, hf] using h
    | some r =>
      rw [consume_of_some n hf]
      exact ih (fetchByte_of_coherent h hf).2

/-- `fetchByte` delivers a byte wherever archIP is inside the window (40_step_and_queue.md R213). -/
theorem exists_fetchByte {s : State} (hcap : 1 ≤ s.queueCap) (hin : s.inWindow s.archIp = true) :
    ∃ b t, s.fetchByte = some (b, t) := by
  cases hq : s.queue with
  | cons b q => exact ⟨b, _, fetchByte_of_cons hq⟩
  | nil =>
    have harch : s.archIp = s.ip := by simp [State.archIp, hq]
    obtain ⟨q, ht⟩ := topUp_queue_of_inWindow hcap hq (harch ▸ hin)
    exact ⟨_, _, fetchByte_of_topUp hq ht⟩

/-- The bytes of a program delivered one at a time: the first one, and then the others from the next state. -/
theorem fetchByte_of_holds {s : State} {b : Byte} {bs : List Byte} (hs : s.QueueCoherent) (hcap : 1 ≤ s.queueCap)
    (h : s.Holds (b :: bs)) :
    ∃ t, s.fetchByte = some (b, t) ∧ t.QueueCoherent ∧ 1 ≤ t.queueCap ∧ t.Holds bs := by
  obtain ⟨hin, hbyte⟩ := h 0 (Nat.succ_pos _)
  obtain ⟨b', t, hf⟩ := exists_fetchByte hcap (by simpa using hin)
  obtain ⟨hb, ht⟩ := fetchByte_of_coherent hs hf
  obtain rfl : b' = b := hb.trans hbyte
  refine ⟨t, hf, ht, ?_, fun k hk => ?_⟩
  · rwa [fetchOnly_fetchByte hf]
  · obtain ⟨hin, hbyte⟩ := h (k + 1) (Nat.succ_lt_succ hk)
    rw [codeByte_fetchByte hf, archIp_fetchByte hf, offset_succ, fetchOnly_fetchByte hf]
    exact ⟨hin, hbyte⟩

/-- What memory holds at CS:archIP is what the decoder is offered, whatever part of it is queued. -/
theorem lookahead_of_holds {s : State} {bs : List Byte} {n : Nat} (hs : s.QueueCoherent) (hcap : 1 ≤ s.queueCap)
    (h : s.Holds bs) (hn : bs.length ≤ n) : ∃ tail, s.lookahead n = bs ++ tail := by
  induction bs generalizing s n with
  | nil => exact ⟨_, rfl⟩
  | cons b bs ih =>
    obtain ⟨n, rfl⟩ := Nat.exists_eq_add_one_of_ne_zero (Nat.ne_of_gt (Nat.lt_of_lt_of_le (Nat.succ_pos _) hn))
    obtain ⟨t, hf, ht, htcap, hbs⟩ := fetchByte_of_holds hs hcap h
    obtain ⟨tail, htail⟩ := ih ht htcap hbs (Nat.le_of_succ_le_succ hn)
    exact ⟨tail, by rw [lookahead_of_some n hf, htail, List.cons_append]⟩

/-- The fill phase keeps the queue within its capacity. -/
theorem queueOk_beginStep {s : State} (h : s.queueOk) : s.beginStep.queueOk :=
  queueOk_topUp (s := { s with status := .running }) h

theorem beginStep_queueCap (s : State) : s.beginStep.queueCap = s.queueCap := by
  obtain ⟨q, p, hb, _⟩ := beginStep_eq_executing s
  rw [hb]
  rfl

/-- The fill phase leaves a coherent queue coherent. -/
theorem queueCoherent_beginStep {s : State} (h : s.QueueCoherent) : s.beginStep.QueueCoherent :=
  queueCoherent_topUp (s := { s with status := .running }) h

theorem holds_beginStep {s : State} {bs : List Byte} (h : s.Holds bs) : s.beginStep.Holds bs := by
  have harch := archIp_beginStep s
  obtain ⟨q, p, hb, _⟩ := beginStep_eq_executing s
  rw [hb] at harch ⊢
  intro k hk
  rw [State.codeByte, harch]
  exact h k hk

theorem prefixed_encode_length (pre : Option SegReg) {i : Instr} (hw : i.wf = true) :
    (prefixBytes pre ++ encode i).length ≤ maxInstrBytes := by
  have hunit := decodeUnit_length (decodeInvertsEncode i [] hw)
  have hpre := prefixBytes_length pre
  simp only [List.append_nil, List.length_nil] at hunit
  simp only [List.length_append, maxInstrBytes]
  omega

/-- The instruction at CS:archIP is what decode answers, and exactly its bytes are then consumed. -/
theorem decode_of_holds {s : State} {pre : Option SegReg} {i : Instr} (hs : s.QueueCoherent) (hcap : 1 ≤ s.queueCap)
    (hw : i.wf = true) (hi : i.segPrefix? = none) (h : s.Holds (prefixBytes pre ++ encode i)) :
    ∃ rest, decode s.window = .ok (pre.map prefixOf) i rest ∧
      s.window.length = (prefixBytes pre ++ encode i).length + rest.length := by
  obtain ⟨rest, hrest⟩ := lookahead_of_holds hs hcap h (prefixed_encode_length pre hw)
  rw [State.window, hrest]
  exact ⟨rest, prefixedInstructionRoundTrip pre i rest hw hi, List.length_append⟩

/-- Settles O16: the bytes at CS:archIP are the bytes that decode reads, and fetching keeps the queue coherent and within
its capacity. -/
theorem stepRunsInstructionInMemory : Obligations.StepRunsInstructionInMemory := by
  intro s pre i hinv hs hcoh hw hi hmem
  obtain ⟨_, hcap, _⟩ := hinv.config
  have hbegin := queueCoherent_beginStep hcoh
  obtain ⟨rest, hd, hlen⟩ := decode_of_holds hbegin ((beginStep_queueCap s).symm ▸ hcap) hw hi (holds_beginStep hmem)
  have hused : s.beginStep.window.length - rest.length = (prefixBytes pre ++ encode i).length := by omega
  have hstep := step_of_decode hs hd
  rw [hused] at hstep
  exact ⟨_, hstep, consume_beginStep _ s, archIp_consume_beginStep (by omega),
    queueOk_consume (queueOk_beginStep hinv.queue), queueCoherent_consume hbegin⟩

/-! ## The stopped machine -/

theorem run_of_done {s : State} (stops : List Bool) (h : s.status = .halted ∨ s.status = .faulted) :
    run stops s = (s, some s.reportOf) := by
  have hdone : s.isDone = true := by rcases h with h | h <;> simp [State.isDone, h]
  have himage : s.status ≠ .noImage := by rcases h with h | h <;> simp [h]
  rw [run, if_neg himage]
  cases stops <;> simp [runLoop, hdone]

/-- Settles O21: each terminal status is a case of `step`, and `run` returns before it takes a step. -/
theorem stoppedMachineChangesNothing : Obligations.StoppedMachineChangesNothing := by
  refine ⟨fun s stops hs => ⟨?_, ?_⟩, fun s stops hs => ⟨?_, ?_⟩, fun s stops hs => ⟨?_, if_pos hs, if_pos hs⟩, rfl⟩
  · simp [step, hs]
  · simp [run_of_done stops (.inl hs), State.reportOf, hs]
  · simp [step, hs]
  · simp [run_of_done stops (.inr hs), State.reportOf, hs]
  · simp [step, hs]

/-! ## Unconditional jumps -/

/-- The wrapped sum with the sign-extended displacement is the exact sum mod 65536 (46_control_transfer.md R400). -/
theorem target8_eq_relTarget (s : State) (rel : Byte) : s.target8 rel = relTarget s rel := by
  rw [relTarget, BitVec.ofInt_add, BitVec.ofInt_natCast, BitVec.ofNat_toNat, BitVec.setWidth_eq]
  rfl

theorem target16_eq_ofNat (s : State) (rel : Word) :
    s.target16 rel = BitVec.ofNat 16 (s.archIp.toNat + rel.toNat) := by
  simp [State.target16, BitVec.ofNat_add]

/-- Settles O52: each form is `jump` to its target. -/
theorem jmpTransfersControl : Obligations.JmpTransfersControl := by
  refine fun s => ⟨fun rel => ?_, fun rel => ?_, fun rm => jumpsTo_jump _ rfl⟩
  · rw [← target8_eq_relTarget]
    exact jumpsTo_jump _ rfl
  · rw [← target16_eq_ofNat]
    exact jumpsTo_jump _ rfl

end Sys2Proof.Machine
end

section
/-! PROOFS. The ALU: the flags of a sum and a difference by definition, by bit-level formula and by meaning, and INC and
DEC. -/

namespace Sys2Proof.Machine

/-! ## Flags of a result -/

/-- A count is odd where the exclusive or of the bits counted is set. -/
theorem countP_mod_two (p : Nat → Bool) (l : List Nat) :
    l.countP p % 2 = (l.foldr (fun i b => p i ^^ b) false).toNat := by
  induction l with
  | nil => rfl
  | cons i l ih =>
    rw [List.foldr_cons, List.countP_cons, Nat.add_mod, ih]
    cases p i <;> cases l.foldr (fun i b => p i ^^ b) false <;> rfl

theorem parity_eq_evenOnes {w : Nat} (r : BitVec w) : parity r = evenOnes r := by
  rw [parity, popcount8, countP_mod_two, evenOnes]
  simp [List.range_succ]

theorem isZero_eq_decide {w : Nat} (r : BitVec w) : isZero r = decide (r.toNat = 0) := by
  simp [isZero, BitVec.toNat_eq, beq_eq_decide]

theorem flagsOf_eq_resultFlags {w : Nat} (r : BitVec w) (cf af ovf : Bool) :
    flagsOf r cf af ovf = resultFlags r cf ovf af := by
  simp only [flagsOf, resultFlags, parity_eq_evenOnes, isZero_eq_decide, signBit, BitVec.msb_eq_toInt]

theorem parity_eq_true_iff {w : Nat} (r : BitVec w) :
    parity r = true ↔ ((List.range 8).countP fun k => r.getLsbD k) % 2 = 0 := beq_iff_eq

theorem isZero_eq_true_iff {w : Nat} (r : BitVec w) : isZero r = true ↔ r = 0 := beq_iff_eq

/-! ## Addition -/

section
variable {w : Nat} (a b : BitVec w) (c : Bool)

theorem aluAdd_result : (aluAdd a b c).result = a + b + BitVec.ofNat w c.toNat := by
  simp [aluAdd, BitVec.ofNat_add]

/-- The result is the exact sum less the carry out of the top bit. -/
theorem aluAdd_result_toNat :
    (aluAdd a b c).result.toNat + (aluAdd a b c).flags.cf.toNat * 2 ^ w = a.toNat + b.toNat + c.toNat := by
  have ha := a.isLt
  have hb := b.isLt
  have hc := c.toNat_le
  simp only [aluAdd, flagsOf, BitVec.toNat_ofNat]
  by_cases h : 2 ^ w ≤ a.toNat + b.toNat + c.toNat
  · rw [Nat.mod_eq_sub_mod h, Nat.mod_eq_of_lt (by omega)]
    simp [h]
  · rw [Nat.mod_eq_of_lt (by omega)]
    simp [h]

theorem aluAdd_result_getLsbD {i : Nat} (hi : i < w) :
    (aluAdd a b c).result.getLsbD i = (a.getLsbD i ^^ (b.getLsbD i ^^ BitVec.carry i a b c)) := by
  have hc : BitVec.ofNat w c.toNat = (BitVec.ofBool c).setWidth w := by
    cases c <;> simp [BitVec.toNat_eq]
  rw [aluAdd_result, hc, BitVec.getLsbD_add_add_bool hi]

theorem aluAdd_cf_eq_carry : (aluAdd a b c).flags.cf = BitVec.carry w a b c := by
  simp [aluAdd, flagsOf, BitVec.carry, Nat.mod_eq_of_lt a.isLt, Nat.mod_eq_of_lt b.isLt]

/-- Between two bits and their sum bit stands the carry into the bit (41_alu_flags.md R243). -/
theorem aluAdd_xor_getLsbD {i : Nat} (hi : i < w) :
    (a ^^^ b ^^^ (aluAdd a b c).result).getLsbD i = BitVec.carry i a b c := by
  rw [BitVec.getLsbD_xor, BitVec.getLsbD_xor, aluAdd_result_getLsbD a b c hi]
  cases a.getLsbD i <;> cases b.getLsbD i <;> simp

theorem aluAdd_cf_iff : (aluAdd a b c).flags.cf = true ↔ 2 ^ w ≤ a.toNat + b.toNat + c.toNat := decide_eq_true_iff

theorem aluAdd_af : (aluAdd a b c).flags.af = (a ^^^ b ^^^ (aluAdd a b c).result).getLsbD 4 := rfl

theorem aluAdd_af_iff (hw : 4 < w) :
    (aluAdd a b c).flags.af = true ↔ 16 ≤ a.toNat % 16 + b.toNat % 16 + c.toNat := by
  rw [aluAdd_af, aluAdd_xor_getLsbD a b c hw]
  exact decide_eq_true_iff

theorem aluAdd_ovf_iff : (aluAdd a b c).flags.ovf = true ↔
    a.msb = b.msb ∧ (aluAdd a b c).result.msb ≠ a.msb := by
  simp [aluAdd, flagsOf]

/-- Signed overflow is a sum outside the signed range (41_alu_flags.md R243): in units of the sign bit's weight `N`, each
value and the result are their unsigned value, less `2 * N` where the sign bit is set. -/
theorem aluAdd_ovf_iff_toInt (hw : 0 < w) : (aluAdd a b c).flags.ovf = true ↔
    a.toInt + b.toInt + c.toNat < -2 ^ (w - 1) ∨ (2 : Int) ^ (w - 1) ≤ a.toInt + b.toInt + c.toNat := by
  obtain ⟨n, rfl⟩ := Nat.exists_eq_add_one.mpr hw
  have ha := a.isLt
  have hb := b.isLt
  have hr := (aluAdd a b c).result.isLt
  have hsum := aluAdd_result_toNat a b c
  have hc := c.toNat_le
  have hpow : (2 : Int) ^ n = ((2 ^ n : Nat) : Int) := by simp
  rw [aluAdd_ovf_iff]
  simp only [BitVec.msb_eq_decide, BitVec.toInt_eq_toNat_cond, Nat.add_sub_cancel, hpow]
  rw [Nat.pow_succ'] at *
  generalize 2 ^ n = N at *
  revert hsum
  cases (aluAdd a b c).flags.cf with
  | false => grind
  | true => grind

theorem aluAdd_cf_eq_msb (hw : 0 < w) : (aluAdd a b c).flags.cf =
    ((a &&& b) ||| ((a ||| b) &&& ~~~(aluAdd a b c).result)).msb := by
  obtain ⟨n, rfl⟩ := Nat.exists_eq_add_one.mpr hw
  have hr := aluAdd_result_getLsbD a b c (Nat.lt_add_one n)
  rw [aluAdd_cf_eq_carry, BitVec.carry_succ]
  simp only [BitVec.msb_eq_getLsbD_last, Nat.add_sub_cancel, BitVec.getLsbD_or, BitVec.getLsbD_and, BitVec.getLsbD_not,
    hr]
  cases a.getLsbD n <;> cases b.getLsbD n <;> simp

theorem aluAdd_ovf_eq_msb : (aluAdd a b c).flags.ovf =
    ((a ^^^ (aluAdd a b c).result) &&& (b ^^^ (aluAdd a b c).result)).msb := by
  rw [Bool.eq_iff_iff, aluAdd_ovf_iff, BitVec.msb_and, BitVec.msb_xor, BitVec.msb_xor]
  cases a.msb <;> cases b.msb <;> simp

/-- Each flag of a sum is its bit-level formula (41_alu_flags.md R243). -/
theorem aluAdd_flags (hw : 0 < w) : (aluAdd a b c).flags = addFlagsBitLevel a b (aluAdd a b c).result := by
  rw [addFlagsBitLevel, ← aluAdd_cf_eq_msb a b c hw, ← aluAdd_ovf_eq_msb]
  exact flagsOf_eq_resultFlags _ _ _ _

end

/-- Without a carry in, the sum is the library's (41_alu_flags.md R243). -/
theorem aluAdd_false_result {w : Nat} (a b : BitVec w) : (aluAdd a b false).result = a + b := by simp [aluAdd_result]

theorem aluAdd_false_flags {w : Nat} (a b : BitVec w) (hw : 0 < w) :
    (aluAdd a b false).flags = addFlagsBitLevel a b (a + b) := by
  rw [aluAdd_flags a b false hw, aluAdd_false_result]

/-- Settles O11: the flags by definition are the model's own, and the carry into and out of each bit links them to the
bit-level formulas and to the meanings. -/
theorem additionResultAndFlags : Obligations.AdditionResultAndFlags := by
  intro w hw a b c r out
  have h4 : 4 < w := by omega
  have hr : out.result = r := aluAdd_result a b c
  rw [← hr]
  exact ⟨rfl, aluAdd_flags a b c (by omega), aluAdd_cf_iff a b c, aluAdd_ovf_iff a b c,
    aluAdd_ovf_iff_toInt a b c (by omega), aluAdd_af_iff a b c h4, parity_eq_true_iff _, isZero_eq_true_iff _, rfl⟩

/-! ## Subtraction -/

section
variable {w : Nat} (a b : BitVec w) (c : Bool)

theorem aluSub_result : (aluSub a b c).result = a - b - BitVec.ofNat w c.toNat := by
  simp [aluSub, Int.sub_eq_add_neg, BitVec.ofInt_add, BitVec.ofInt_neg, BitVec.sub_eq_add_neg]

/-- A difference is the sum with the complement, a borrow being the absence of a carry. -/
theorem aluSub_result_eq_aluAdd : (aluSub a b c).result = (aluAdd a (~~~b) !c).result := by
  rw [aluSub_result, aluAdd_result, BitVec.not_eq_neg_add]
  cases c <;> simp [BitVec.sub_eq_add_neg, BitVec.add_assoc]

theorem aluSub_cf_iff : (aluSub a b c).flags.cf = true ↔ a.toNat < b.toNat + c.toNat := by
  refine decide_eq_true_iff.trans ?_
  omega

theorem aluSub_cf_eq_not : (aluSub a b c).flags.cf = !(aluAdd a (~~~b) !c).flags.cf := by
  have ha := a.isLt
  have hb := b.isLt
  rw [Bool.eq_iff_iff, aluSub_cf_iff, Bool.not_eq_true', ← Bool.not_eq_true, aluAdd_cf_iff, BitVec.toNat_not]
  cases c <;> simp <;> omega

theorem aluSub_af : (aluSub a b c).flags.af = (a ^^^ b ^^^ (aluSub a b c).result).getLsbD 4 := rfl

theorem aluSub_af_eq_not (hw : 4 < w) : (aluSub a b c).flags.af = !(aluAdd a (~~~b) !c).flags.af := by
  rw [aluSub_af, aluAdd_af, aluSub_result_eq_aluAdd]
  simp [hw]

theorem aluSub_ovf_iff : (aluSub a b c).flags.ovf = true ↔ a.msb ≠ b.msb ∧ (aluSub a b c).result.msb ≠ a.msb := by
  simp [aluSub, flagsOf]

theorem aluSub_ovf_eq (hw : 0 < w) : (aluSub a b c).flags.ovf = (aluAdd a (~~~b) !c).flags.ovf := by
  rw [Bool.eq_iff_iff, aluSub_ovf_iff, aluAdd_ovf_iff, aluSub_result_eq_aluAdd, BitVec.msb_not]
  cases a.msb <;> cases b.msb <;> simp [hw]

/-- The complement is the negation less 1 as a signed value too. -/
theorem toInt_not_eq (hw : 0 < w) : (~~~b).toInt = -b.toInt - 1 := by
  obtain ⟨n, rfl⟩ := Nat.exists_eq_add_one.mpr hw
  have hb := b.isLt
  rw [BitVec.toInt_eq_toNat_cond, BitVec.toInt_eq_toNat_cond, BitVec.toNat_not, Nat.pow_succ'] at *
  split <;> split <;> omega

theorem aluSub_ovf_iff_toInt (hw : 0 < w) : (aluSub a b c).flags.ovf = true ↔
    a.toInt - b.toInt - c.toNat < -2 ^ (w - 1) ∨ (2 : Int) ^ (w - 1) ≤ a.toInt - b.toInt - c.toNat := by
  have hsum : a.toInt + (~~~b).toInt + (!c).toNat = a.toInt - b.toInt - c.toNat := by
    rw [toInt_not_eq b hw]
    cases c <;> simp <;> omega
  rw [aluSub_ovf_eq a b c hw, aluAdd_ovf_iff_toInt _ _ _ hw, hsum]

theorem aluSub_af_iff (hw : 4 < w) : (aluSub a b c).flags.af = true ↔ a.toNat % 16 < b.toNat % 16 + c.toNat := by
  have hpow : 2 ^ w % 16 = 0 := Nat.mod_eq_zero_of_dvd (pow_dvd_pow 2 hw.le)
  have hb := b.isLt
  rw [aluSub_af_eq_not a b c hw, Bool.not_eq_true', ← Bool.not_eq_true, aluAdd_af_iff _ _ _ hw, BitVec.toNat_not]
  cases c <;> simp <;> omega

theorem aluSub_cf_eq_msb (hw : 0 < w) : (aluSub a b c).flags.cf =
    ((~~~a &&& b) ||| ((~~~a ||| b) &&& (aluSub a b c).result)).msb := by
  rw [aluSub_cf_eq_not, aluAdd_cf_eq_msb _ _ _ hw, ← aluSub_result_eq_aluAdd]
  simp only [BitVec.msb_or, BitVec.msb_and, BitVec.msb_not, hw, decide_true, Bool.true_and]
  cases a.msb <;> cases b.msb <;> simp

theorem aluSub_ovf_eq_msb : (aluSub a b c).flags.ovf = ((a ^^^ b) &&& (a ^^^ (aluSub a b c).result)).msb := by
  rw [Bool.eq_iff_iff, aluSub_ovf_iff, BitVec.msb_and, BitVec.msb_xor, BitVec.msb_xor]
  cases a.msb <;> cases b.msb <;> simp

/-- Each flag of a difference is its bit-level formula (41_alu_flags.md R244). -/
theorem aluSub_flags (hw : 0 < w) : (aluSub a b c).flags = subFlagsBitLevel a b (aluSub a b c).result := by
  rw [subFlagsBitLevel, ← aluSub_cf_eq_msb a b c hw, ← aluSub_ovf_eq_msb]
  exact flagsOf_eq_resultFlags _ _ _ _

end

/-- Without a borrow in, the difference is the library's (41_alu_flags.md R244). -/
theorem aluSub_false_result {w : Nat} (a b : BitVec w) : (aluSub a b false).result = a - b := by simp [aluSub_result]

theorem aluSub_false_flags {w : Nat} (a b : BitVec w) (hw : 0 < w) :
    (aluSub a b false).flags = subFlagsBitLevel a b (a - b) := by
  rw [aluSub_flags a b false hw, aluSub_false_result]

/-- Settles O12: CF, AF and O of a difference are those of the sum with the complement, CF and AF inverted. -/
theorem subtractionResultAndFlags : Obligations.SubtractionResultAndFlags := by
  intro w hw a b c r out
  have h4 : 4 < w := by omega
  have hr : out.result = r := aluSub_result a b c
  rw [← hr]
  exact ⟨rfl, aluSub_flags a b c (by omega), aluSub_cf_iff a b c, aluSub_ovf_iff a b c,
    aluSub_ovf_iff_toInt a b c (by omega), aluSub_af_iff a b c h4, parity_eq_true_iff _, isZero_eq_true_iff _, rfl⟩

/-! ## INC and DEC -/

section
variable {i : Instr} {s : State}

/-- What an instruction does that writes a byte result and every arithmetic flag but CF (41_alu_flags.md R251). -/
theorem computes8_writeFive (p : Place Reg8) (out : AluOut 8) {v : Byte} {a : AluFlags}
    (h : exec i s = .next ((s.writePlace8 p out.result).setFlags (s.flags.writeFive out.flags)))
    (hv : out.result = v) (ha : out.flags = a) : Computes8 i s p v { a with cf := s.flags.cf } := by
  subst hv; subst ha
  exact ⟨_, h, stored8_setFlags _ (stored8_writePlace8 s p _), rfl, (writePlace8_frame s p _).2⟩

/-- As `computes8_writeFive`, for words. -/
theorem computes16_writeFive (p : Place Reg16) (out : AluOut 16) {v : Word} {a : AluFlags}
    (h : exec i s = .next ((s.writePlace16 p out.result).setFlags (s.flags.writeFive out.flags)))
    (hv : out.result = v) (ha : out.flags = a) : Computes16 i s p v { a with cf := s.flags.cf } := by
  subst hv; subst ha
  exact ⟨_, h, stored16_setFlags _ (stored16_writePlace16 s p _), rfl, (writePlace16_frame s p _).2⟩

theorem computes8_inc8 (p : Place Reg8) (h : exec i s = inc8 p s) : Computes8 i s p (s.readPlace8 p + 1)
    { addFlagsBitLevel (s.readPlace8 p) 1 (s.readPlace8 p + 1) with cf := s.flags.cf } :=
  computes8_writeFive p _ h (aluAdd_false_result _ _) (aluAdd_false_flags _ _ (by decide))

theorem computes16_inc16 (p : Place Reg16) (h : exec i s = inc16 p s) : Computes16 i s p (s.readPlace16 p + 1)
    { addFlagsBitLevel (s.readPlace16 p) 1 (s.readPlace16 p + 1) with cf := s.flags.cf } :=
  computes16_writeFive p _ h (aluAdd_false_result _ _) (aluAdd_false_flags _ _ (by decide))

theorem computes8_dec8 (p : Place Reg8) (h : exec i s = dec8 p s) : Computes8 i s p (s.readPlace8 p - 1)
    { subFlagsBitLevel (s.readPlace8 p) 1 (s.readPlace8 p - 1) with cf := s.flags.cf } :=
  computes8_writeFive p _ h (aluSub_false_result _ _) (aluSub_false_flags _ _ (by decide))

theorem computes16_dec16 (p : Place Reg16) (h : exec i s = dec16 p s) : Computes16 i s p (s.readPlace16 p - 1)
    { subFlagsBitLevel (s.readPlace16 p) 1 (s.readPlace16 p - 1) with cf := s.flags.cf } :=
  computes16_writeFive p _ h (aluSub_false_result _ _) (aluSub_false_flags _ _ (by decide))

end

theorem exec_incReg (r : Reg16) (s : State) : exec (incReg r) s = inc16 (.reg r) s := by cases r <;> rfl

theorem exec_decReg (r : Reg16) (s : State) : exec (decReg r) s = dec16 (.reg r) s := by cases r <;> rfl

/-- Settles O39: every form is the addition or subtraction of 1 at its operand place, with CF kept. -/
theorem incAndDec : Obligations.IncAndDec := fun s =>
  ⟨fun r => computes16_inc16 _ (exec_incReg r s), fun _ => computes8_inc8 _ rfl, fun _ => computes16_inc16 _ rfl,
    fun r => computes16_dec16 _ (exec_decReg r s), fun _ => computes8_dec8 _ rfl, fun _ => computes16_dec16 _ rfl⟩

end Sys2Proof.Machine
end

section
/-! PROOFS. MUL, IMUL, DIV and IDIV: exact products, and quotients with their remainders or DivideFault. -/

namespace Sys2Proof.Machine

/-! ## DX:AX -/

/-- DX:AX reads the number that was written to it (43_arithmetic.md R328). -/
theorem dxAx_setDxAx (s : State) (p : BitVec 32) : (s.setDxAx p).dxAx = p :=
  BitVec.extractLsb'_append_extractLsb' (w := 16) (len := 16)

theorem dxAx_toNat (s : State) : s.dxAx.toNat = (s.x16 .dx).toNat * 65536 + (s.x16 .ax).toNat := by
  rw [State.dxAx, BitVec.toNat_append, ← Nat.shiftLeft_add_eq_or_of_lt (s.x16 .ax).isLt, Nat.shiftLeft_eq]

theorem dxAx_toInt (s : State) : s.dxAx.toInt = (s.x16 .dx).toInt * 65536 + (s.x16 .ax).toNat := by
  rw [State.dxAx, BitVec.toInt_append]
  simp [mul_comm]

/-! ## MUL and IMUL -/

/-- A product of two words fits a double word (41_alu_flags.md R246). -/
theorem toNat_ofNat_mul {w : Nat} (a b : BitVec w) :
    (BitVec.ofNat (w * 2) (a.toNat * b.toNat)).toNat = a.toNat * b.toNat :=
  Nat.mod_eq_of_lt BitVec.toNat_mul_toNat_lt

theorem toInt_ofInt_mul {w : Nat} (a b : BitVec w) (hw : 0 < w) :
    (BitVec.ofInt (w * 2) (a.toInt * b.toInt)).toInt = a.toInt * b.toInt := by
  have hle : a.toInt * b.toInt ≤ 2 ^ (w * 2 - 2) := BitVec.toInt_mul_toInt_le
  have hge : -2 ^ (w * 2 - 2) ≤ a.toInt * b.toInt := BitVec.le_toInt_mul_toInt
  have hlt : (2 : Int) ^ (w * 2 - 2) < 2 ^ (w * 2 - 1) := pow_lt_pow_right₀ (by decide) (by omega)
  exact BitVec.toInt_ofInt_eq_self (by omega) (by omega) (by omega)

/-- An unsigned product is too wide where its high half is not 0 (41_alu_flags.md R246). -/
theorem mulFlags_unsigned {w n : Nat} {p : BitVec (2 * w)} {tooWide : Bool} (hp : p.toNat = n)
    (h : tooWide = true ↔ 2 ^ w ≤ n) : mulFlags w p false = resultFlags p tooWide tooWide false := by
  have hlt : n / 2 ^ w < 2 ^ w := Nat.div_lt_of_lt_mul (by rw [← Nat.pow_add, ← hp, ← Nat.two_mul]; exact p.isLt)
  have hwide : decide (p.extractLsb' w w ≠ 0) = tooWide := by
    rw [Bool.eq_iff_iff, decide_eq_true_iff, h, ne_eq, BitVec.toNat_eq, BitVec.extractLsb'_toNat, hp,
      Nat.shiftRight_eq_div_pow, Nat.mod_eq_of_lt hlt]
    simp
  simp only [mulFlags, flagsOf_eq_resultFlags, Bool.false_eq_true, if_false, hwide]

/-- A signed product is too wide where it is not the sign extension of its low half (41_alu_flags.md R246). -/
theorem mulFlags_signed {w : Nat} {n : Int} {p : BitVec (2 * w)} {tooWide : Bool} (hw : 0 < w) (hp : p.toInt = n)
    (h : tooWide = true ↔ n < -2 ^ (w - 1) ∨ 2 ^ (w - 1) ≤ n) :
    mulFlags w p true = resultFlags p tooWide tooWide false := by
  have hlo : p.setWidth w = BitVec.ofInt w n := by
    apply BitVec.eq_of_toInt_eq
    rw [BitVec.toInt_setWidth, BitVec.toInt_ofInt, ← hp, BitVec.toInt_eq_toNat_bmod,
      Int.bmod_bmod_of_dvd (Nat.pow_dvd_pow 2 (by omega))]
  have hwide : decide (p.toInt ≠ (p.setWidth w).toInt) = tooWide := by
    rw [Bool.eq_iff_iff, decide_eq_true_iff, h, hlo, hp]
    constructor
    · intro hne
      by_contra hfit
      exact hne (BitVec.toInt_ofInt_eq_self hw (by omega) (by omega)).symm
    · intro hout heq
      have := BitVec.le_toInt (BitVec.ofInt w n)
      have := BitVec.toInt_lt (x := BitVec.ofInt w n)
      omega
  simp only [mulFlags, flagsOf_eq_resultFlags, if_true, hwide]

section
variable {i : Instr} {s : State} {signed tooWide : Bool}

/-- What a byte multiplication does: the product in AX and its flags (43_arithmetic.md R328, R329). -/
theorem mulWrite8_effect {p : Word} (P : Word → Prop) (h : exec i s = mulWrite8 p signed s) (hp : P p)
    (hf : mulFlags 8 p signed = resultFlags p tooWide tooWide false) :
    ∃ t, exec i s = .next t ∧ P (t.x16 .ax) ∧ (∀ q, q ≠ .ax → t.x16 q = s.x16 q) ∧ SameMem s t ∧
      SixFlags s t (resultFlags (t.x16 .ax) tooWide tooWide false) ∧ SameBeyondAlu s t :=
  ⟨_, h, hp, fun _ hq => get_set_other _ _ hq, fun _ => rfl, congrArg s.flags.writeSix hf, SameBeyondAlu.refl s⟩

/-- What a word multiplication does: the product in DX:AX and its flags (43_arithmetic.md R328, R329). -/
theorem mulWrite16_effect {p : BitVec 32} (P : BitVec 32 → Prop) (h : exec i s = mulWrite16 p signed s) (hp : P p)
    (hf : mulFlags 16 p signed = resultFlags p tooWide tooWide false) :
    ∃ t, exec i s = .next t ∧ P t.dxAx ∧ (∀ q, q ≠ .ax → q ≠ .dx → t.x16 q = s.x16 q) ∧ SameMem s t ∧
      SixFlags s t (resultFlags t.dxAx tooWide tooWide false) ∧ SameBeyondAlu s t := by
  have hdxAx : ((s.setDxAx p).setFlags (s.flags.writeSix (mulFlags 16 p signed))).dxAx = p := dxAx_setDxAx s p
  refine ⟨_, h, hdxAx.symm ▸ hp, fun _ hax hdx => (get_set_other _ _ hdx).trans (get_set_other _ _ hax), fun _ => rfl, ?_,
    SameBeyondAlu.refl s⟩
  rw [hdxAx, ← hf]
  rfl

end

/-- Settles O40: the product fits the register it is written to, so that the exact product decides the flags. -/
theorem mulAndImul : Obligations.MulAndImul := by
  refine fun s => ⟨fun rm => ?_, fun rm => ?_, fun rm => ?_, fun rm => ?_⟩
  · have hn := toNat_ofNat_mul (s.x8 .al) (s.rdRm8 rm)
    exact mulWrite8_effect (·.toNat = _) rfl hn (mulFlags_unsigned hn decide_eq_true_iff)
  · have hn := toNat_ofNat_mul (s.x16 .ax) (s.rdRm16 rm)
    exact mulWrite16_effect (·.toNat = _) rfl hn (mulFlags_unsigned hn decide_eq_true_iff)
  · have hn := toInt_ofInt_mul (s.x8 .al) (s.rdRm8 rm) (by decide)
    exact mulWrite8_effect (·.toInt = _) rfl hn (mulFlags_signed (by decide) hn decide_eq_true_iff)
  · have hn := toInt_ofInt_mul (s.x16 .ax) (s.rdRm16 rm) (by decide)
    exact mulWrite16_effect (·.toInt = _) rfl hn (mulFlags_signed (by decide) hn decide_eq_true_iff)

/-! ## DIV and IDIV -/

/-- A quotient that fits, with its remainder, which fits as it is less than the divisor (43_arithmetic.md R330). -/
theorem divMod_toNat {w n : Nat} {d : BitVec w} (hd : d.toNat ≠ 0) (hq : n / d.toNat < 2 ^ w) :
    (BitVec.ofNat w (n / d.toNat)).toNat * d.toNat + (BitVec.ofNat w (n % d.toNat)).toNat = n ∧
      (BitVec.ofNat w (n % d.toNat)).toNat < d.toNat := by
  have hm : n % d.toNat < d.toNat := Nat.mod_lt _ (Nat.pos_of_ne_zero hd)
  rw [BitVec.toNat_ofNat, BitVec.toNat_ofNat, Nat.mod_eq_of_lt hq, Nat.mod_eq_of_lt (hm.trans d.isLt)]
  exact ⟨Nat.div_add_mod' n _, hm⟩

/-- A remainder of truncation toward zero is 0 or has the dividend's sign. -/
theorem tmod_mul_self_nonneg (n d : Int) : 0 ≤ n.tmod d * n := by
  rcases le_total 0 n with hn | hn
  · exact mul_nonneg (Int.tmod_nonneg d hn) hn
  · have := Int.tmod_nonneg d (Int.neg_nonneg.mpr hn)
    rw [Int.neg_tmod] at this
    exact mul_nonneg_of_nonpos_of_nonpos (by omega) hn

/-- As `divMod_toNat`, for the signed quotient truncated toward zero (43_arithmetic.md R331). -/
theorem divMod_toInt {w : Nat} {n : Int} {d : BitVec w} (hd : d.toInt ≠ 0) (hlo : -2 ^ (w - 1) ≤ n.tdiv d.toInt)
    (hhi : n.tdiv d.toInt < 2 ^ (w - 1)) :
    (BitVec.ofInt w (n.tdiv d.toInt)).toInt * d.toInt + (BitVec.ofInt w (n.tmod d.toInt)).toInt = n ∧
      (BitVec.ofInt w (n.tmod d.toInt)).toInt.natAbs < d.toInt.natAbs ∧
      0 ≤ (BitVec.ofInt w (n.tmod d.toInt)).toInt * n := by
  have hw : 0 < w := by
    rcases w with _ | w
    · exact absurd (BitVec.toInt_of_zero_length (x := d) rfl) hd
    · omega
  have hm : (n.tmod d.toInt).natAbs < d.toInt.natAbs := by
    rw [Int.natAbs_tmod]
    exact Nat.mod_lt _ (Int.natAbs_pos.mpr hd)
  have := BitVec.le_toInt d
  have := BitVec.toInt_lt (x := d)
  rw [BitVec.toInt_ofInt_eq_self hw hlo hhi, BitVec.toInt_ofInt_eq_self hw (by omega) (by omega)]
  exact ⟨Int.tdiv_mul_add_tmod n _, hm, tmod_mul_self_nonneg n _⟩

section
variable {i : Instr} {s : State} {c : Prop} [Decidable c] {r : Result}

/-- What a byte division does that does not fault: quotient in AL, remainder in AH, and the flags of the quotient
(43_arithmetic.md R330, R331). -/
theorem divWrite8_effect {q m : Byte} (P : Byte → Byte → Prop) (h : exec i s = if c then r else divWrite8 q m s) (hc : ¬c)
    (hp : P q m) :
    ∃ t, exec i s = .next t ∧ P (t.x8 .al) (t.x8 .ah) ∧ (∀ q, q ≠ .ax → t.x16 q = s.x16 q) ∧ SameMem s t ∧
      SixFlags s t (resultFlags (t.x8 .al) false false false) ∧ SameBeyondAlu s t := by
  have hal : (((s.setX8 .al q).setX8 .ah m).setFlags (s.flags.writeSix (divFlags q))).x8 .al = q :=
    (get8_set8_other _ _ (by decide)).trans (get8_set8_same _ _ _)
  have hah : (((s.setX8 .al q).setX8 .ah m).setFlags (s.flags.writeSix (divFlags q))).x8 .ah = m :=
    get8_set8_same _ _ _
  refine ⟨_, h.trans (if_neg hc), by rwa [hal, hah],
    fun _ hax => (get_set8_other _ _ hax).trans (get_set8_other _ _ hax), fun _ => rfl, ?_, SameBeyondAlu.refl s⟩
  rw [hal]
  exact congrArg s.flags.writeSix (flagsOf_eq_resultFlags q false false false)

/-- As `divWrite8_effect`, for words: quotient in AX, remainder in DX. -/
theorem divWrite16_effect {q m : Word} (P : Word → Word → Prop) (h : exec i s = if c then r else divWrite16 q m s)
    (hc : ¬c) (hp : P q m) :
    ∃ t, exec i s = .next t ∧ P (t.x16 .ax) (t.x16 .dx) ∧ (∀ q, q ≠ .ax → q ≠ .dx → t.x16 q = s.x16 q) ∧ SameMem s t ∧
      SixFlags s t (resultFlags (t.x16 .ax) false false false) ∧ SameBeyondAlu s t :=
  ⟨_, h.trans (if_neg hc), hp, fun _ hax hdx => (get_set_other _ _ hdx).trans (get_set_other _ _ hax), fun _ => rfl,
    congrArg s.flags.writeSix (flagsOf_eq_resultFlags q false false false), SameBeyondAlu.refl s⟩

theorem raises_divideFault {opc : Byte} (h : exec i s = if c then .next (s.raise .divideFault opc) else r) (hc : c) :
    Raises i s .divideFault opc :=
  ⟨_, h.trans (if_pos hc), faultTaken_raise s _ _⟩

end

/-- Settles O41: the two cases are the two branches of the fault check, and what is written fits its register. -/
theorem divDividesOrFaults : Obligations.DivDividesOrFaults := by
  refine fun s => ⟨fun rm => ⟨?_, raises_divideFault rfl⟩, fun rm => ?_⟩
  · rintro ⟨hd, hq⟩
    obtain ⟨t, ht, ⟨hn, hm⟩, hrest⟩ := divWrite8_effect (fun q m => q.toNat * _ + m.toNat = _ ∧ m.toNat < _)
      (i := .divRm8 rm) (s := s) rfl (by omega) (divMod_toNat hd (by omega))
    exact ⟨t, ht, hn, hm, hrest⟩
  · rw [← dxAx_toNat]
    refine ⟨?_, raises_divideFault rfl⟩
    rintro ⟨hd, hq⟩
    obtain ⟨t, ht, ⟨hn, hm⟩, hrest⟩ := divWrite16_effect (fun q m => q.toNat * _ + m.toNat = _ ∧ m.toNat < _)
      (i := .divRm16 rm) (s := s) rfl (by omega) (divMod_toNat hd (by omega))
    exact ⟨t, ht, hn, hm, hrest⟩

/-- Settles O42: as for DIV, with the signed quotient truncated toward zero. -/
theorem idivDividesOrFaults : Obligations.IdivDividesOrFaults := by
  refine fun s => ⟨fun rm => ⟨?_, raises_divideFault rfl⟩, fun rm => ?_⟩
  · rintro ⟨hd, hlo, hhi⟩
    obtain ⟨t, ht, ⟨hn, hm, hsign⟩, hrest⟩ :=
      divWrite8_effect (fun q m => q.toInt * _ + m.toInt = _ ∧ m.toInt.natAbs < _ ∧ 0 ≤ m.toInt * _)
        (i := .idivRm8 rm) (s := s) rfl (by omega) (divMod_toInt hd hlo (by omega))
    exact ⟨t, ht, hn, hm, hsign, hrest⟩
  · rw [← dxAx_toInt]
    refine ⟨?_, raises_divideFault rfl⟩
    rintro ⟨hd, hlo, hhi⟩
    obtain ⟨t, ht, ⟨hn, hm, hsign⟩, hrest⟩ :=
      divWrite16_effect (fun q m => q.toInt * _ + m.toInt = _ ∧ m.toInt.natAbs < _ ∧ 0 ≤ m.toInt * _)
        (i := .idivRm16 rm) (s := s) rfl (by omega) (divMod_toInt hd hlo (by omega))
    exact ⟨t, ht, hn, hm, hsign, hrest⟩

end Sys2Proof.Machine
end

section
/-! PROOFS. Data movement (42_data_movement.md R280 to R296), and the encodings that the spec writes out as examples. -/

namespace Sys2Proof.Machine

/-! ## Sample encodings -/

/-- What stands alone in the byte stream decodes to the instruction it is the encoding of. -/
theorem decode_of_eq_encode (pre : Option SegReg) (i : Instr) {bs : List Byte} (hbs : bs = prefixBytes pre ++ encode i)
    (hw : i.wf = true) (hp : i.segPrefix? = none) : decode bs = .ok (pre.map prefixOf) i [] := by
  simpa [hbs] using prefixedInstructionRoundTrip pre i [] hw hp

/-- Settles O6: the bytes are the encodings of the instructions named, which the round trip decodes. -/
theorem sampleEncodingsDecode : Obligations.SampleEncodingsDecode :=
  ⟨decode_of_eq_encode none (.movRm16R16 (.mem (.disp8 .bxSi 4)) .ax) rfl rfl rfl,
    decode_of_eq_encode none (.leaR16M .si (.disp8 .bxDi 0x10)) rfl rfl rfl,
    decode_of_eq_encode none (.adcRm16Imm8 (.reg .dx) 0) rfl rfl rfl,
    decode_of_eq_encode none (.orRm16Imm16 (.reg .bx) 0x8000) rfl rfl rfl,
    decode_of_eq_encode none (.popRm16 (.mem (.base .bx))) rfl rfl rfl,
    decode_of_eq_encode none (.callRm16 (.reg .bx)) rfl rfl rfl,
    decode_of_eq_encode none (.retImm16 4) rfl rfl rfl,
    decode_of_eq_encode none (.imulRm8 (.reg .cl)) rfl rfl rfl,
    decode_of_eq_encode (some .ss) (.movRm16R16 (.mem (.disp8 .bp 2)) .ax) rfl rfl rfl⟩

/-! ## MOV -/

/-- Settles O43: each form is one write to its destination place. -/
theorem movBetweenRegisterAndRm : Obligations.MovBetweenRegisterAndRm := fun _ =>
  ⟨fun _ _ => moves8_writePlace8 _ _ rfl, fun _ _ => moves16_writePlace16 _ _ rfl,
    fun _ _ => moves8_writePlace8 _ _ rfl, fun _ _ => moves16_writePlace16 _ _ rfl⟩

theorem exec_movRegImm8 (r : Reg8) (imm : Byte) (s : State) : exec (movRegImm8 r imm) s = .next (s.setX8 r imm) := by
  cases r <;> rfl

theorem exec_movRegImm16 (r : Reg16) (imm : Word) (s : State) :
    exec (movRegImm16 r imm) s = .next (s.setX16 r imm) := by cases r <;> rfl

/-- Settles O44: each form is one write to its destination place, a direct offset being one in the data segment. -/
theorem movImmediateAndDirectMemory : Obligations.MovImmediateAndDirectMemory := fun s =>
  ⟨fun r imm => moves8_writePlace8 _ _ (exec_movRegImm8 r imm s),
    fun r imm => moves16_writePlace16 _ _ (exec_movRegImm16 r imm s),
    fun _ _ => moves8_writePlace8 _ _ rfl, fun _ _ => moves16_writePlace16 _ _ rfl,
    fun off =>
      have toAl : Moves8 (.movAlMoffs8 off) s (.reg .al) (s.memRead8 s.dataSeg off) := moves8_writePlace8 _ _ rfl
      have toAx : Moves16 (.movAxMoffs16 off) s (.reg .ax) (s.memRead16 s.dataSeg off) := moves16_writePlace16 _ _ rfl
      have fromAl : Moves8 (.movMoffs8Al off) s (.mem s.dataSeg off) (s.x8 .al) := moves8_writePlace8 _ _ rfl
      have fromAx : Moves16 (.movMoffs16Ax off) s (.mem s.dataSeg off) (s.x16 .ax) := moves16_writePlace16 _ _ rfl
      ⟨toAl, toAx, fromAl, fromAx⟩⟩

/-- What an instruction does that writes one segment register. -/
theorem loadsSeg_setSreg {i : Instr} {s : State} {r : SegReg} {v : Word} (h : exec i s = .next (s.setSreg r v)) :
    LoadsSeg i s r v :=
  ⟨_, h, by simp [State.sreg, segs_get_set], fun q hq => by simp [State.sreg, segs_get_set, hq], fun _ => rfl,
    fun _ => rfl, rfl, ⟨rfl, rfl⟩, SameControl.refl s⟩

/-- Settles O45: the store is one write to the operand place, each load one write to a segment register. -/
theorem movSegmentRegister : Obligations.MovSegmentRegister := fun _ =>
  ⟨fun _ _ => moves16_writePlace16 _ _ rfl, fun _ => loadsSeg_setSreg rfl, fun _ => loadsSeg_setSreg rfl,
    fun _ => loadsSeg_setSreg rfl⟩

/-! ## XCHG -/

/-- Two writes swap two registers when both values were read before: `g` is `f` with `r` written, `h` is `g` with `p`
written. With `p = r` the second write stands, which writes what was read. -/
theorem swapped_of_two_writes {ρ α : Type} {f g h : ρ → α} {p r : ρ} (hr : g r = f p) (hg : ∀ q, q ≠ r → g q = f q)
    (hp : h p = f r) (hh : ∀ q, q ≠ p → h q = g q) :
    h p = f r ∧ h r = f p ∧ ∀ q, q ≠ p → q ≠ r → h q = f q := by
  refine ⟨hp, ?_, fun q hqp hqr => (hh q hqp).trans (hg q hqr)⟩
  by_cases hrp : r = p
  · subst hrp
    exact hp
  · exact (hh r hrp).trans hr

/-- XCHG of two byte registers, on the state that `xchg8` answers (42_data_movement.md R287). -/
theorem xchg8_reg_swaps (s : State) (p r : Reg8) :
    let t := (s.setX8 r (s.x8 p)).setX8 p (s.x8 r)
    (t.x8 p = s.x8 r ∧ t.x8 r = s.x8 p ∧ ∀ q, q ≠ p → q ≠ r → t.x8 q = s.x8 q) ∧
      ∀ q, q ≠ wordReg p → q ≠ wordReg r → t.x16 q = s.x16 q := by
  obtain ⟨hr, hother, hword⟩ := reg8Written_setX8 s r (s.x8 p)
  obtain ⟨hp, hother', hword'⟩ := reg8Written_setX8 (s.setX8 r (s.x8 p)) p (s.x8 r)
  exact ⟨swapped_of_two_writes hr hother hp hother', fun q hqp hqr => (hword' q hqp).trans (hword q hqr)⟩

/-- As `xchg8_reg_swaps`, for words; with `r` AX it is also the state that `xchgAx` answers (R287, R288). -/
theorem xchg16_reg_swaps (s : State) (p r : Reg16) :
    let t := (s.setX16 r (s.x16 p)).setX16 p (s.x16 r)
    t.x16 p = s.x16 r ∧ t.x16 r = s.x16 p ∧ ∀ q, q ≠ p → q ≠ r → t.x16 q = s.x16 q := by
  obtain ⟨hr, hother⟩ := reg16Written_setX16 s r (s.x16 p)
  obtain ⟨hp, hother'⟩ := reg16Written_setX16 (s.setX16 r (s.x16 p)) p (s.x16 r)
  exact swapped_of_two_writes hr hother hp hother'

theorem exec_xchgAxReg {r : Reg16} (h : r ≠ .ax) (s : State) : exec (xchgAxReg r) s = xchgAx r s := by
  cases r with
  | ax => exact absurd rfl h
  | _ => rfl

/-- Settles O46: with a register operand the two writes swap, with a memory operand they go to different places. -/
theorem xchgSwaps : Obligations.XchgSwaps := by
  refine fun s => ⟨fun rm r => ?_, fun rm r => ?_, fun r hr => ?_⟩
  · obtain ⟨hflags, hbeyond⟩ := writePlace8_frame (s.setX8 r (s.rdRm8 rm)) (s.place rm) (s.x8 r)
    refine ⟨_, rfl, hflags, hbeyond, ?_, ?_⟩
    · rintro p rfl
      obtain ⟨⟨hp, hr, hother⟩, hword⟩ := xchg8_reg_swaps s p r
      exact ⟨hp, hr, hother, hword, fun _ => rfl⟩
    · rintro m rfl
      exact ⟨reg8Written_setX8 s r _, byte8Written_memWrite8 (s.setX8 r _) _ _ _⟩
  · obtain ⟨hflags, hbeyond⟩ := writePlace16_frame (s.setX16 r (s.rdRm16 rm)) (s.place rm) (s.x16 r)
    refine ⟨_, rfl, hflags, hbeyond, ?_, ?_⟩
    · rintro p rfl
      obtain ⟨hp, hr, hother⟩ := xchg16_reg_swaps s p r
      exact ⟨hp, hr, hother, fun _ => rfl⟩
    · rintro m rfl
      exact ⟨reg16Written_setX16 s r _, word16Written_memWrite16 (s.setX16 r _) _ _ _⟩
  · obtain ⟨hreg, hax, hother⟩ := xchg16_reg_swaps s r .ax
    exact ⟨_, exec_xchgAxReg hr s, hax, hreg, fun q hqax hqr => hother q hqr hqax, fun _ => rfl, rfl,
      SameBeyondAlu.refl s⟩

/-! ## LEA, CBW and CWD -/

/-- Settles O47: the sign extension of AL is its signed value mod 65536, and AX is negative from 0x8000 up. -/
theorem leaCbwCwd : Obligations.LeaCbwCwd := by
  refine fun s => ⟨fun _ _ => moves16_writePlace16 _ _ rfl, moves16_writePlace16 _ _ rfl, ?_⟩
  have hsign : (s.x16 .ax).msb = true ↔ 0x8000 ≤ (s.x16 .ax).toNat := BitVec.msb_eq_true_iff_two_mul_ge.trans (by omega)
  simp only [← hsign]
  exact moves16_writePlace16 _ _ rfl

/-! ## NOP, LAHF and SAHF -/

/-- The byte that LAHF writes, as the sum of its bits (42_data_movement.md R295). -/
theorem lowByte_eq_ofNat (f : Flags) : f.lowByte = BitVec.ofNat 8
    (f.sf.toNat * 128 + f.zf.toNat * 64 + f.af.toNat * 16 + f.pf.toNat * 4 + 2 + f.cf.toNat) := by
  apply BitVec.eq_of_toNat_eq
  rw [Flags.lowByte, loByte, BitVec.extractLsb'_toNat, flags_word_toNat, BitVec.toNat_ofNat]
  omega

/-- What an instruction does that writes the flags alone. -/
theorem setsFlags_setFlags {i : Instr} {s : State} {f : Flags} (h : exec i s = .next (s.setFlags f)) :
    SetsFlags i s f :=
  ⟨_, h, fun _ => rfl, fun _ => rfl, rfl, SameBeyondAlu.refl s⟩

/-- Settles O48: LAHF is one write of the low byte of the FLAGS word to AH, SAHF one write of the flags. -/
theorem nopLahfSahf : Obligations.NopLahfSahf := fun s =>
  ⟨rfl, lowByte_eq_ofNat s.flags ▸ moves8_writePlace8 (.reg .ah) _ rfl, setsFlags_setFlags rfl⟩

end Sys2Proof.Machine
end

section
/-! PROOFS. The two-operand arithmetic instructions in their nine forms (30_encoding.md R132), NOT and NEG. -/

namespace Sys2Proof.Machine

/-! ## The nine forms of an ALU instruction -/

/-- What holds of each form, its destination and its two values may be replaced by anything it implies. -/
theorem AluForms.All.imp {fm : AluForms} {s : State} {P8 Q8 : Instr → Place Reg8 → Byte → Byte → Prop}
    {P16 Q16 : Instr → Place Reg16 → Word → Word → Prop} (h8 : ∀ {i p a b}, P8 i p a b → Q8 i p a b)
    (h16 : ∀ {i p a b}, P16 i p a b → Q16 i p a b) (h : fm.All s P8 P16) : fm.All s Q8 Q16 := by
  obtain ⟨rmR8, rmR16, rRm8, rRm16, alImm, axImm, rmImm8, rmImm16, rmImmExt⟩ := h
  exact ⟨fun rm r => h8 (rmR8 rm r), fun rm r => h16 (rmR16 rm r), fun r rm => h8 (rRm8 r rm),
    fun r rm => h16 (rRm16 r rm), fun imm => h8 (alImm imm), fun imm => h16 (axImm imm),
    fun rm imm => h8 (rmImm8 rm imm), fun rm imm => h16 (rmImm16 rm imm), fun rm imm => h16 (rmImmExt rm imm)⟩

/-- Every form writes the result of the ALU function `f` to its destination, and the six flags. -/
def AluForms.Writes (fm : AluForms) (s : State) (f : ∀ {w : Nat}, BitVec w → BitVec w → AluOut w) : Prop :=
  fm.All s (fun i p a b => exec i s = aluWrite8 f ⟨p, a, b⟩ s) (fun i p a b => exec i s = aluWrite16 f ⟨p, a, b⟩ s)

/-- Every form writes the six flags of the ALU function `f` and discards its result. -/
def AluForms.WritesFlags (fm : AluForms) (s : State) (f : ∀ {w : Nat}, BitVec w → BitVec w → AluOut w) : Prop :=
  fm.All s (fun i p a b => exec i s = aluFlags8 f ⟨p, a, b⟩ s) (fun i p a b => exec i s = aluFlags16 f ⟨p, a, b⟩ s)

section
variable {fm : AluForms} {s : State} {f : ∀ {w : Nat}, BitVec w → BitVec w → AluOut w}
  {v : ∀ {w : Nat}, BitVec w → BitVec w → BitVec w} {fl : ∀ {w : Nat}, BitVec w → BitVec w → AluFlags}

theorem AluForms.Writes.computes (h : fm.Writes s f) (hv : ∀ {w : Nat} (a b : BitVec w), (f a b).result = v a b)
    (hfl : ∀ {w : Nat} (a b : BitVec w), 0 < w → (f a b).flags = fl a b) :
    fm.All s (fun i p a b => Computes8 i s p (v a b) (fl a b)) (fun i p a b => Computes16 i s p (v a b) (fl a b)) :=
  h.imp (fun h => computes8_aluWrite8 f _ h (hv _ _) (hfl _ _ (by decide)))
    (fun h => computes16_aluWrite16 f _ h (hv _ _) (hfl _ _ (by decide)))

theorem AluForms.WritesFlags.compares (h : fm.WritesFlags s f)
    (hfl : ∀ {w : Nat} (a b : BitVec w), 0 < w → (f a b).flags = fl a b) :
    fm.All s (fun i _ a b => Compares i s (fl a b)) (fun i _ a b => Compares i s (fl a b)) :=
  h.imp (fun h => compares_aluFlags8 f _ h (hfl _ _ (by decide)))
    (fun h => compares_aluFlags16 f _ h (hfl _ _ (by decide)))

end

/-! ## ADD and ADC -/

theorem add_writes (s : State) : AluForms.add.Writes s (aluAdd · · false) :=
  ⟨fun _ _ => rfl, fun _ _ => rfl, fun _ _ => rfl, fun _ _ => rfl, fun _ => rfl, fun _ => rfl, fun _ _ => rfl,
    fun _ _ => rfl, fun _ _ => rfl⟩

theorem adc_writes (s : State) : AluForms.adc.Writes s (aluAdd · · s.flags.cf) :=
  ⟨fun _ _ => rfl, fun _ _ => rfl, fun _ _ => rfl, fun _ _ => rfl, fun _ => rfl, fun _ => rfl, fun _ _ => rfl,
    fun _ _ => rfl, fun _ _ => rfl⟩

theorem aluAdd_flags_eq {w : Nat} (a b : BitVec w) (c : Bool) (hw : 0 < w) :
    (aluAdd a b c).flags = addFlagsBitLevel a b (a + b + BitVec.ofNat w c.toNat) := by
  rw [aluAdd_flags a b c hw, aluAdd_result]

/-- Settles O33: every form writes the sum, ADD without a carry in and ADC with CF. -/
theorem addAndAdc : Obligations.AddAndAdc := fun s =>
  ⟨(add_writes s).computes aluAdd_false_result aluAdd_false_flags,
    (adc_writes s).computes (aluAdd_result · · s.flags.cf) (aluAdd_flags_eq · · s.flags.cf)⟩

/-! ## SUB, SBB and CMP -/

theorem sub_writes (s : State) : AluForms.sub.Writes s (aluSub · · false) :=
  ⟨fun _ _ => rfl, fun _ _ => rfl, fun _ _ => rfl, fun _ _ => rfl, fun _ => rfl, fun _ => rfl, fun _ _ => rfl,
    fun _ _ => rfl, fun _ _ => rfl⟩

theorem sbb_writes (s : State) : AluForms.sbb.Writes s (aluSub · · s.flags.cf) :=
  ⟨fun _ _ => rfl, fun _ _ => rfl, fun _ _ => rfl, fun _ _ => rfl, fun _ => rfl, fun _ => rfl, fun _ _ => rfl,
    fun _ _ => rfl, fun _ _ => rfl⟩

theorem cmp_writesFlags (s : State) : AluForms.cmp.WritesFlags s (aluSub · · false) :=
  ⟨fun _ _ => rfl, fun _ _ => rfl, fun _ _ => rfl, fun _ _ => rfl, fun _ => rfl, fun _ => rfl, fun _ _ => rfl,
    fun _ _ => rfl, fun _ _ => rfl⟩

theorem aluSub_flags_eq {w : Nat} (a b : BitVec w) (c : Bool) (hw : 0 < w) :
    (aluSub a b c).flags = subFlagsBitLevel a b (a - b - BitVec.ofNat w c.toNat) := by
  rw [aluSub_flags a b c hw, aluSub_result]

/-- Settles O34: every form writes the difference, SUB without a borrow in and SBB with CF. -/
theorem subAndSbb : Obligations.SubAndSbb := fun s =>
  ⟨(sub_writes s).computes aluSub_false_result aluSub_false_flags,
    (sbb_writes s).computes (aluSub_result · · s.flags.cf) (aluSub_flags_eq · · s.flags.cf)⟩

/-- Settles O35: every form writes the flags of the difference and discards the difference. -/
theorem cmpWritesFlagsOnly : Obligations.CmpWritesFlagsOnly := fun s =>
  (cmp_writesFlags s).compares aluSub_false_flags

/-! ## NOT and NEG -/

section
variable {w : Nat} (a : BitVec w)

theorem aluSub_zero_cf : (aluSub 0 a false).flags.cf = decide (a ≠ 0) := by
  rw [Bool.eq_iff_iff, aluSub_cf_iff, decide_eq_true_iff, ne_eq, BitVec.toNat_eq]
  simp [Nat.pos_iff_ne_zero]

/-- Only the least value's negation is outside the signed range. -/
theorem aluSub_zero_ovf (hw : 0 < w) : (aluSub 0 a false).flags.ovf = decide (a = BitVec.intMin w) := by
  have hlow := BitVec.le_toInt a
  have hhigh := BitVec.toInt_lt (x := a)
  have hzero : (0 : BitVec w).toInt = 0 := BitVec.toInt_zero
  rw [Bool.eq_iff_iff, aluSub_ovf_iff_toInt _ _ _ hw, decide_eq_true_iff, ← BitVec.toInt_inj,
    BitVec.toInt_intMin_of_pos hw, hzero, Bool.toNat_false]
  omega

theorem aluSub_zero_af (hw : 4 < w) : (aluSub 0 a false).flags.af = decide (a.toNat % 16 ≠ 0) := by
  rw [Bool.eq_iff_iff, aluSub_af_iff _ _ _ hw, decide_eq_true_iff]
  simp [Nat.pos_iff_ne_zero]

/-- The flags of a negation by their meaning (43_arithmetic.md R327). -/
theorem aluSub_zero_flags (hw : 4 < w) : (aluSub 0 a false).flags =
    resultFlags (0 - a) (decide (a ≠ 0)) (decide (a = BitVec.intMin w)) (decide (a.toNat % 16 ≠ 0)) := by
  rw [← aluSub_zero_cf, ← aluSub_zero_ovf a (by omega), ← aluSub_zero_af a hw, ← aluSub_false_result]
  exact flagsOf_eq_resultFlags _ _ _ _

end

/-- Settles O38: NOT writes the complement and no flag, NEG is the subtraction from 0 at its operand place. -/
theorem notAndNeg : Obligations.NotAndNeg := by
  intro s
  refine ⟨fun rm => ?not8, fun rm => ?not16, fun rm => ?neg8, fun rm => ?neg16⟩
  case not8 =>
    have hnot : s.rdRm8 rm ^^^ 0xFF = ~~~s.rdRm8 rm := BitVec.xor_allOnes
    exact hnot ▸ moves8_writePlace8 _ _ rfl
  case not16 =>
    have hnot : s.rdRm16 rm ^^^ 0xFFFF = ~~~s.rdRm16 rm := BitVec.xor_allOnes
    exact hnot ▸ moves16_writePlace16 _ _ rfl
  case neg8 =>
    exact computes8_aluWrite8 (fun z a => aluSub z a false) ⟨s.place rm, 0, s.rdRm8 rm⟩ rfl (aluSub_false_result _ _)
      (aluSub_zero_flags _ (by decide))
  case neg16 =>
    exact computes16_aluWrite16 (fun z a => aluSub z a false) ⟨s.place rm, 0, s.rdRm16 rm⟩ rfl
      (aluSub_false_result _ _) (aluSub_zero_flags _ (by decide))

end Sys2Proof.Machine
end

section
/-! PROOFS. The logical instructions AND, OR and XOR in their nine forms (30_encoding.md R132), and TEST. -/

namespace Sys2Proof.Machine

@[simp] theorem aluLogic_result {w : Nat} (r : BitVec w) : (aluLogic r).result = r := rfl

/-- The flags of a logical result: CF, O and AF are 0 (41_alu_flags.md R245). -/
theorem aluLogic_flags {w : Nat} (r : BitVec w) : (aluLogic r).flags = resultFlags r false false false :=
  flagsOf_eq_resultFlags r false false false

/-! ## AND, OR and XOR -/

/-- An instruction that writes the bitwise result `g a b` in every form does all that R245 gives it. -/
theorem AluForms.Writes.computes_logic {fm : AluForms} {s : State} {g : ∀ {w : Nat}, BitVec w → BitVec w → BitVec w}
    (h : fm.Writes s fun a b => aluLogic (g a b)) :
    fm.All s (fun i p a b => Computes8 i s p (g a b) (resultFlags (g a b) false false false))
      (fun i p a b => Computes16 i s p (g a b) (resultFlags (g a b) false false false)) :=
  h.computes (v := g) (fl := fun a b => resultFlags (g a b) false false false) (fun a b => aluLogic_result (g a b))
    (fun a b _ => aluLogic_flags (g a b))

theorem and_writes (s : State) : AluForms.and.Writes s fun a b => aluLogic (a &&& b) :=
  ⟨fun _ _ => rfl, fun _ _ => rfl, fun _ _ => rfl, fun _ _ => rfl, fun _ => rfl, fun _ => rfl, fun _ _ => rfl,
    fun _ _ => rfl, fun _ _ => rfl⟩

theorem or_writes (s : State) : AluForms.or.Writes s fun a b => aluLogic (a ||| b) :=
  ⟨fun _ _ => rfl, fun _ _ => rfl, fun _ _ => rfl, fun _ _ => rfl, fun _ => rfl, fun _ => rfl, fun _ _ => rfl,
    fun _ _ => rfl, fun _ _ => rfl⟩

theorem xor_writes (s : State) : AluForms.xor.Writes s fun a b => aluLogic (a ^^^ b) :=
  ⟨fun _ _ => rfl, fun _ _ => rfl, fun _ _ => rfl, fun _ _ => rfl, fun _ => rfl, fun _ => rfl, fun _ _ => rfl,
    fun _ _ => rfl, fun _ _ => rfl⟩

/-- Settles O36: every form writes the bitwise result to its destination, with the flags of a logical result. -/
theorem andOrXor : Obligations.AndOrXor := fun s =>
  ⟨(and_writes s).computes_logic, (or_writes s).computes_logic, (xor_writes s).computes_logic⟩

/-! ## TEST -/

section
variable {i : Instr} {s : State}

/-- What an instruction does that writes only the flags of `a AND b` (44_logical.md R363). -/
theorem compares_test8 (p : OperandPair Reg8 8) (h : exec i s = aluFlags8 (fun a b => aluLogic (a &&& b)) p s) :
    Compares i s (resultFlags (p.a &&& p.b) false false false) := compares_aluFlags8 _ p h (aluLogic_flags _)

/-- As `compares_test8`, for words. -/
theorem compares_test16 (p : OperandPair Reg16 16) (h : exec i s = aluFlags16 (fun a b => aluLogic (a &&& b)) p s) :
    Compares i s (resultFlags (p.a &&& p.b) false false false) := compares_aluFlags16 _ p h (aluLogic_flags _)

end

/-- Settles O37: every form writes the flags of `a AND b` for its operand pair and discards the result. -/
theorem testWritesFlagsOnly : Obligations.TestWritesFlagsOnly := fun s =>
  ⟨fun rm r => compares_test8 (s.pairRm8R8 rm r) rfl, fun rm r => compares_test16 (s.pairRm16R16 rm r) rfl,
    fun imm => compares_test8 (s.pairAlImm8 imm) rfl, fun imm => compares_test16 (s.pairAxImm16 imm) rfl,
    fun rm imm => compares_test8 (s.pairRm8Imm8 rm imm) rfl, fun rm imm => compares_test16 (s.pairRm16Imm16 rm imm) rfl⟩

end Sys2Proof.Machine
end

section
/-! PROOFS. The stack (45_stack.md R380 to R390): what a push and a pop do, when each faults, and that the stack is last in,
first out. -/

namespace Sys2Proof.Machine

/-! ## The instructions that push and pop -/

section
variable (s : State)

/-- PUSH r16 pushes the register under its own opcode, SP as it is after the decrement (45_stack.md R383). -/
theorem exec_pushReg (r : Reg16) : exec (pushReg r) s =
    push ((encode (pushReg r)).headD 0) (if r = .sp then s.x16 .sp - 2 else s.x16 r) s := by cases r <;> rfl

/-- PUSH sreg pushes the segment register under its own opcode (45_stack.md R385). -/
theorem exec_pushSeg (r : SegReg) : exec (pushSeg r) s = push ((encode (pushSeg r)).headD 0) (s.sreg r) s := by
  cases r <;> rfl

/-- POP r16 pops into the register under its own opcode (45_stack.md R384). -/
theorem exec_popReg (r : Reg16) :
    exec (popReg r) s = pop ((encode (popReg r)).headD 0) (fun v t => t.setX16 r v) s := by cases r <;> rfl

/-- POP r/m16 pops into the operand place of the state before the instruction (45_stack.md R387). -/
theorem exec_popRm16 (rm : Rm16) : exec (.popRm16 rm) s =
    pop ((encode (.popRm16 rm)).headD 0) (fun v t => t.writePlace16 (s.place rm) v) s := rfl

/-- POPF pops into the flags (45_stack.md R389). -/
theorem exec_popf :
    exec .popf s = pop ((encode .popf).headD 0) (fun v t => t.setFlags (Flags.ofWord v)) s := rfl

end

/-! ## PUSH -/

/-- What an instruction does that pushes `v`, where SP is at least 2 (45_stack.md R381). -/
theorem pushes_push {i : Instr} {s : State} {opc : Byte} {v : Word} (hsp : 2 ≤ (s.x16 .sp).toNat)
    (h : exec i s = push opc v s) : Pushes i s v := by
  obtain ⟨hreg, hmem⟩ := push16_written s v
  exact ⟨s.push16 v, h.trans (pushThen_next hsp), hreg, hmem, rfl, SameBeyondAlu.refl s⟩

/-- Settles O49: every form pushes the value its rule names, and a push that fits is `push16`. -/
theorem pushMovesSpAndStores : Obligations.PushMovesSpAndStores := fun s hsp =>
  ⟨fun r => pushes_push hsp (exec_pushReg s r), fun r => pushes_push hsp (exec_pushSeg s r),
    fun _ => pushes_push hsp rfl, pushes_push hsp rfl⟩

/-! ## POP -/

section
variable {i : Instr} {s : State} {opc : Byte}

/-- A pop that fits goes on with the word at SS:SP from the state whose SP is 2 more (45_stack.md R382). -/
theorem pop_next {k : Word → State → State} (hsp : (s.x16 .sp).toNat + 2 ≤ 0xFFFF) :
    pop opc k s = .next (k s.stackTop (s.setX16 .sp (s.x16 .sp + 2))) := by
  simpa [pop] using popThen_next (opc := opc) (extra := 0) (k := k) (s := s) hsp

/-- What a pop into a word register does; into SP, the popped word replaces the increment (45_stack.md R384). -/
theorem pop_into_reg {r : Reg16} (hsp : (s.x16 .sp).toNat + 2 ≤ 0xFFFF)
    (h : exec i s = pop opc (fun v t => t.setX16 r v) s) :
    ∃ t, exec i s = .next t ∧ t.x16 r = s.stackTop ∧ (r ≠ .sp → t.x16 .sp = s.x16 .sp + 2) ∧
      (∀ q, q ≠ r → q ≠ .sp → t.x16 q = s.x16 q) ∧ SameMem s t ∧ t.flags = s.flags ∧ SameBeyondAlu s t := by
  obtain ⟨hpop, hkeep⟩ := reg16Written_setX16 (s.setX16 .sp (s.x16 .sp + 2)) r s.stackTop
  obtain ⟨hinc, hother⟩ := reg16Written_setX16 s .sp (s.x16 .sp + 2)
  exact ⟨_, h.trans (pop_next hsp), hpop, fun hr => (hkeep _ hr.symm).trans hinc,
    fun q hq hqsp => (hkeep q hq).trans (hother q hqsp), fun _ => rfl, rfl, SameBeyondAlu.refl s⟩

/-- What a pop into a segment register does (45_stack.md R386). -/
theorem pop_into_seg {r : SegReg} (hsp : (s.x16 .sp).toNat + 2 ≤ 0xFFFF)
    (h : exec i s = pop opc (fun v t => t.setSreg r v) s) :
    ∃ t, exec i s = .next t ∧ t.sreg r = s.stackTop ∧ (∀ q, q ≠ r → t.sreg q = s.sreg q) ∧
      Reg16Written s t .sp (s.x16 .sp + 2) ∧ SameMem s t ∧ t.flags = s.flags ∧ SameFetch s t ∧ SameControl s t := by
  have hseg : ∀ q, (s.segs.set r s.stackTop).get q = if q = r then s.stackTop else s.segs.get q :=
    fun q => segs_get_set _ _ _ _
  exact ⟨_, h.trans (pop_next hsp), (hseg r).trans (if_pos rfl), fun q hq => (hseg q).trans (if_neg hq),
    reg16Written_setX16 s .sp _, fun _ => rfl, rfl, ⟨rfl, rfl⟩, SameControl.refl s⟩

/-- What a pop into memory does, at an address computed before SP moves (45_stack.md R387). -/
theorem pop_into_mem {seg off : Word} (hsp : (s.x16 .sp).toNat + 2 ≤ 0xFFFF)
    (h : exec i s = pop opc (fun v t => t.memWrite16 seg off v) s) :
    ∃ t, exec i s = .next t ∧ Reg16Written s t .sp (s.x16 .sp + 2) ∧ Word16Written s t seg off s.stackTop ∧
      t.flags = s.flags ∧ SameBeyondAlu s t :=
  ⟨_, h.trans (pop_next hsp), reg16Written_setX16 s .sp _,
    word16Written_memWrite16 (s.setX16 .sp (s.x16 .sp + 2)) seg off s.stackTop, rfl, SameBeyondAlu.refl s⟩

/-- What POPF does (45_stack.md R389). -/
theorem popf_into_flags (hsp : (s.x16 .sp).toNat + 2 ≤ 0xFFFF) :
    ∃ t, exec .popf s = .next t ∧ t.flags = Flags.ofWord s.stackTop ∧ Reg16Written s t .sp (s.x16 .sp + 2) ∧
      SameMem s t ∧ SameBeyondAlu s t :=
  ⟨_, (exec_popf s).trans (pop_next hsp), rfl, reg16Written_setX16 s .sp _, fun _ => rfl, SameBeyondAlu.refl s⟩

end

/-- Settles O50: every form is one pop into its destination; the address of a memory destination is that of the state
before the instruction. -/
theorem popLoadsAndMovesSp : Obligations.PopLoadsAndMovesSp := fun s hsp =>
  ⟨fun r => pop_into_reg hsp (exec_popReg s r), fun r => pop_into_reg hsp (exec_popRm16 s (.reg r)),
    pop_into_seg hsp rfl, pop_into_seg hsp rfl, pop_into_seg hsp rfl,
    fun m => pop_into_mem hsp (exec_popRm16 s (.mem m)), popf_into_flags hsp⟩

/-! ## StackFault -/

section
variable {i : Instr} {s : State}

/-- An instruction raises StackFault exactly where its stack check fails, if what it does otherwise records no fault. -/
theorem stackFaultsIff_of_check {c : Prop} {t : State}
    (hraise : c → exec i s = .next (s.raise .stackFault ((encode i).headD 0))) (hnext : ¬c → exec i s = .next t)
    (ht : SameFault s t ∧ t.status = s.status) : StackFaultsIff i s c :=
  ⟨fun hc => ⟨_, hraise hc, faultTaken_raise s .stackFault _⟩, fun hc => ⟨t, hnext hc, ht⟩⟩

/-- A push faults exactly where SP is below 2 (45_stack.md R380). -/
theorem stackFaultsIff_pushThen {v : Word} {k : State → State}
    (h : exec i s = pushThen ((encode i).headD 0) v k s) (hk : ∀ t, SameFault t (k t) ∧ (k t).status = t.status) :
    StackFaultsIff i s ((s.x16 .sp).toNat < 2) :=
  stackFaultsIff_of_check (fun hlow => h.trans (pushThen_raise hlow))
    (fun hlow => h.trans (pushThen_next (Nat.le_of_not_lt hlow))) (hk (s.push16 v))

/-- A pop faults exactly where SP would pass 0xFFFF (45_stack.md R380; 46_control_transfer.md R426). -/
theorem stackFaultsIff_popThen {extra : Word} {k : Word → State → State} {c : Prop}
    (h : exec i s = popThen ((encode i).headD 0) extra k s)
    (hk : ∀ v t, SameFault t (k v t) ∧ (k v t).status = t.status)
    (hc : c ↔ 0xFFFF < (s.x16 .sp).toNat + (2 + extra.toNat)) : StackFaultsIff i s c :=
  stackFaultsIff_of_check (fun hhigh => h.trans (popThen_raise (hc.mp hhigh)))
    (fun hhigh => h.trans (popThen_next (Nat.le_of_not_lt (mt hc.mpr hhigh))))
    (hk s.stackTop (s.setX16 .sp (s.x16 .sp + 2 + extra)))

/-- A push that does nothing more. -/
theorem stackFaultsIff_push {v : Word} (h : exec i s = push ((encode i).headD 0) v s) :
    StackFaultsIff i s ((s.x16 .sp).toNat < 2) :=
  stackFaultsIff_pushThen h fun _ => ⟨⟨rfl, rfl, rfl⟩, rfl⟩

/-- A pop that moves SP by 2 only. -/
theorem stackFaultsIff_pop {k : Word → State → State} (h : exec i s = pop ((encode i).headD 0) k s)
    (hk : ∀ v t, SameFault t (k v t) ∧ (k v t).status = t.status) :
    StackFaultsIff i s (0xFFFE ≤ (s.x16 .sp).toNat) :=
  stackFaultsIff_popThen (extra := 0) h hk (by have : (0 : Word).toNat = 0 := rfl; omega)

end

/-- Settles O51: every stack instruction is a push or a pop behind its check, and what follows the check records no fault. -/
theorem stackFaultBounds : Obligations.StackFaultBounds := by
  intro s
  refine ⟨fun r => stackFaultsIff_push (exec_pushReg s r), fun r => stackFaultsIff_push (exec_pushSeg s r),
    fun _ => stackFaultsIff_push rfl, stackFaultsIff_push rfl,
    fun rel => stackFaultsIff_pushThen (k := fun t => t.jump (s.target16 rel)) rfl ?_,
    fun rm => stackFaultsIff_pushThen (k := fun t => t.jump (s.rdRm16 rm)) rfl ?_,
    fun r => stackFaultsIff_pop (exec_popReg s r) ?_,
    stackFaultsIff_pop (k := fun v t => t.setSreg .es v) rfl ?_,
    stackFaultsIff_pop (k := fun v t => t.setSreg .ss v) rfl ?_,
    stackFaultsIff_pop (k := fun v t => t.setSreg .ds v) rfl ?_,
    fun rm => stackFaultsIff_pop (exec_popRm16 s rm) ?_, stackFaultsIff_pop (exec_popf s) ?_,
    stackFaultsIff_pop (k := fun v t => t.jump v) rfl ?_,
    fun imm => stackFaultsIff_popThen (k := fun v t => t.jump v) rfl ?_ (by rw [Nat.add_assoc])⟩
  all_goals simp [SameFault]

/-! ## Last in, first out -/

/-- Two offsets that one segment puts less than the size of the store apart do not fall on one linear address
(20_memory.md R81). -/
theorem lin_sub_ne {s : State} {seg off : Word} {j k : Nat} (hjk : j < k) (hk : k ≤ off.toNat) (hsize : k - j < s.memSize) :
    s.lin seg (off - BitVec.ofNat 16 j) ≠ s.lin seg (off - BitVec.ofNat 16 k) := by
  have hoff : ∀ n ≤ k, (off - BitVec.ofNat 16 n).toNat = off.toNat - n := fun n hn => by
    have := off.isLt
    bv_omega
  have hadd : seg.toNat * 16 + (off.toNat - j) = seg.toNat * 16 + (off.toNat - k) + (k - j) := by omega
  rw [State.lin, State.lin, hoff j hjk.le, hoff k le_rfl, hadd]
  intro h
  have hdvd : s.memSize ∣ k - j := (Nat.add_modEq_left_iff).mp h
  exact absurd (Nat.le_of_dvd (by omega) hdvd) (by omega)

/-- Popping `m + n` words is popping `m` and then `n`. -/
theorem popWords_add (m n : Nat) (s : State) :
    popWords (m + n) s = (popWords m s).bind fun r => (popWords n r.2).map fun q => (r.1 ++ q.1, q.2) := by
  induction m generalizing s with
  | zero => simp [popWords]
  | succ m ih =>
    rw [Nat.succ_add, popWords, popWords, ih]
    split
    · simp [Option.map_bind, Option.bind_map, Function.comp_def]
    · rfl

/-- The SP that a pop leaves after a push, and all else but memory, is that before the push (45_stack.md R381, R382). -/
theorem push16_mem_setX16_sp (s : State) (v : Word) (m : Memory) :
    ({ s.push16 v with mem := m } : State).setX16 .sp (s.x16 .sp - 2 + 2) = { s with mem := m } := by
  have hregs : (s.regs.set .sp (s.x16 .sp - 2)).set .sp (s.x16 .sp) = s.regs :=
    regs_ext fun r => by by_cases h : r = .sp <;> simp [get_set, h, State.x16]
  rw [BitVec.sub_add_cancel]
  exact congrArg (fun g => { s with regs := g, mem := m }) hregs

theorem push16_sp (s : State) (v : Word) : (s.push16 v).x16 .sp = s.x16 .sp - 2 := by
  obtain ⟨⟨hsp, _⟩, _⟩ := push16_written s v
  exact hsp

/-- The offset `k` bytes below the SP that a push leaves is `k + 2` bytes below the SP before it (45_stack.md R381). -/
theorem push16_sp_sub (s : State) (v : Word) (k : Nat) :
    (s.push16 v).x16 .sp - BitVec.ofNat 16 k = s.x16 .sp - BitVec.ofNat 16 (k + 2) := by
  rw [push16_sp, Nat.add_comm, BitVec.ofNat_add]
  exact sub_sub _ _ _

/-- A push, and then a pop from a memory that still reads the pushed word, give the word back and leave all but memory as it
was before the push (45_stack.md R390). -/
theorem popWords_one_push16 {s : State} {m : Memory} {v : Word} (hsp : 2 ≤ (s.x16 .sp).toNat)
    (hlo : m.read (s.lin (s.sreg .ss) (s.x16 .sp - 2)) = loByte v)
    (hhi : m.read (s.lin (s.sreg .ss) (s.x16 .sp - 2 + 1)) = hiByte v) :
    popWords 1 { s.push16 v with mem := m } = some ([v], { s with mem := m }) := by
  have hspu : ({ s.push16 v with mem := m } : State).x16 .sp = s.x16 .sp - 2 := push16_sp s v
  have hfits : State.popFits { s.push16 v with mem := m } 2 = true := by
    simp only [State.popFits, hspu, decide_eq_true_eq]
    bv_omega
  have htop : State.stackTop { s.push16 v with mem := m } = v := by
    rw [State.stackTop, hspu]
    calc wordOf (m.read (s.lin (s.sreg .ss) (s.x16 .sp - 2))) (m.read (s.lin (s.sreg .ss) (s.x16 .sp - 2 + 1)))
        = wordOf (loByte v) (hiByte v) := by rw [hlo, hhi]
      _ = v := wordOf_lo_hi v
  rw [popWords, if_pos hfits, htop, hspu, push16_mem_setX16_sp]
  rfl

/-- The words pushed after `v` come back before it, and `v` last. -/
theorem pushWords_bind_popWords_cons {s t u : State} {v : Word} {vs : List Word} (hsp : 2 ≤ (s.x16 .sp).toNat)
    (hrun : (pushWords vs (s.push16 v)).bind (popWords vs.length) = some (vs.reverse, t))
    (hlast : popWords 1 t = some ([v], u)) :
    (pushWords (v :: vs) s).bind (popWords (v :: vs).length) = some ((v :: vs).reverse, u) := by
  calc (pushWords (v :: vs) s).bind (popWords (vs.length + 1))
      = ((pushWords vs (s.push16 v)).bind (popWords vs.length)).bind fun r =>
          (popWords 1 r.2).map fun q => (r.1 ++ q.1, q.2) := by
        simp only [pushWords, State.pushFits, hsp, decide_true, if_true, popWords_add, Option.bind_assoc]
    _ = some ((v :: vs).reverse, u) := by simp [hrun, hlast]

/-- Settles O30, by induction on the pushed words: the pushes and pops of the later words leave the first word where it was
pushed, below which all their bytes lie, so the last pop gives it back. -/
theorem stackIsLastInFirstOut : Obligations.StackIsLastInFirstOut := by
  intro s vs
  induction vs generalizing s with
  | nil => exact fun _ _ => ⟨s, rfl, rfl, fun _ _ => rfl⟩
  | cons v vs ih =>
    intro hsp hsize
    rw [List.length_cons] at hsp hsize
    have hroom : 2 * vs.length ≤ ((s.push16 v).x16 .sp).toNat := by
      rw [push16_sp]
      bv_omega
    obtain ⟨t, hrun, hstate, hframe⟩ := ih (s.push16 v) hroom (by rw [push16_memSize]; omega)
    simp only [push16_sp_sub] at hframe
    have hkept : ∀ j, 1 ≤ j → j ≤ 2 → t.mem.read (s.lin (s.sreg .ss) (s.x16 .sp - BitVec.ofNat 16 j)) =
        (s.push16 v).mem.read (s.lin (s.sreg .ss) (s.x16 .sp - BitVec.ofNat 16 j)) := fun j hj1 hj2 =>
      hframe _ fun k hk1 hk2 => lin_sub_ne (by omega) (by omega) (by omega)
    obtain ⟨_, hhi, hlo, hother⟩ := push16_written s v
    have hnext : s.x16 .sp - 2 + 1 = s.x16 .sp - 1 := by bv_omega
    have hne : s.lin (s.sreg .ss) (s.x16 .sp - 2) ≠ s.lin (s.sreg .ss) (s.x16 .sp - 2 + 1) := by
      rw [hnext]
      exact (lin_sub_ne (j := 1) (k := 2) (by decide) (by omega) (by omega)).symm
    have hlast : popWords 1 t = some ([v], { s with mem := t.mem }) := by
      rw [hstate]
      exact popWords_one_push16 (by omega) ((hkept 2 (by decide) le_rfl).trans (hlo hne))
        ((hnext ▸ hkept 1 le_rfl (by decide)).trans hhi)
    refine ⟨{ s with mem := t.mem }, ?_, rfl, fun a ha => ?_⟩
    · exact pushWords_bind_popWords_cons (by omega) hrun hlast
    · have hbelow : t.mem.read a = (s.push16 v).mem.read a :=
        hframe a fun k hk1 hk2 => ha (k + 2) (by omega) (by rw [List.length_cons]; omega)
      exact hbelow.trans (hother a (ha 2 (by decide) (by simp)) (hnext ▸ ha 1 le_rfl (by simp; omega)))

end Sys2Proof.Machine
end

section
/-! PROOFS. Control transfer (46_control_transfer.md R401 to R426): conditional jumps, loops, CALL and RET. -/

namespace Sys2Proof.Machine

/-! ## Conditional jumps and loops -/

section
variable {i : Instr} {s : State} {b : Bool} {c : Prop} {rel : Byte}

theorem jumpIf_taken (hb : b = true) : jumpIf b rel s = .next (s.jump (relTarget s rel)) := by
  rw [jumpIf, if_pos hb, target8_eq_relTarget]

theorem jumpIf_not_taken (hb : ¬b = true) : jumpIf b rel s = .next s := by rw [jumpIf, if_neg hb]

/-- What an instruction does that is `jumpIf` on a condition that says `c` (46_control_transfer.md R401). -/
theorem jumpsIf_jumpIf (h : exec i s = jumpIf b rel s) (hb : b = true ↔ c) : JumpsIf i s c (relTarget s rel) :=
  ⟨fun hc => jumpsTo_jump _ (h.trans (jumpIf_taken (hb.mpr hc))), fun hc => h.trans (jumpIf_not_taken (mt hb.mp hc))⟩

/-- What an instruction does that is `loopIf` on a condition that says `c`: the write to CX moves neither queue nor IP,
so the target is that of the state before it (46_control_transfer.md R419 to R421). -/
theorem loopsIf_loopIf (h : exec i s = loopIf b rel s) (hb : b = true ↔ c) : LoopsIf i s c (relTarget s rel) := by
  have htaken : (s.x16 .cx - 1 != 0 && b) = true ↔ s.x16 .cx - 1 ≠ 0 ∧ c := by rw [Bool.and_eq_true, bne_iff_ne, hb]
  have hcx := reg16Written_setX16 s .cx (s.x16 .cx - 1)
  by_cases hc : s.x16 .cx - 1 ≠ 0 ∧ c
  · exact ⟨_, h.trans (jumpIf_taken (htaken.mpr hc)), hcx, fun _ => rfl, rfl, fun _ => rfl, SameControl.refl s,
      fun _ => ⟨rfl, rfl⟩, absurd hc⟩
  · exact ⟨_, h.trans (jumpIf_not_taken (mt htaken.mp hc)), hcx, fun _ => rfl, rfl, fun _ => rfl, SameControl.refl s,
      fun hc' => absurd hc' hc, fun _ => ⟨rfl, rfl⟩⟩

end

/-- Settles O53: each form is `jumpIf` on its own row of the condition table (41_alu_flags.md R255). -/
theorem jumpsOnOverflowCarryZero : Obligations.JumpsOnOverflowCarryZero := by
  intro s rel
  refine ⟨jumpsIf_jumpIf rfl ?_, jumpsIf_jumpIf rfl ?_, jumpsIf_jumpIf rfl ?_, jumpsIf_jumpIf rfl ?_,
    jumpsIf_jumpIf rfl ?_, jumpsIf_jumpIf rfl ?_, jumpsIf_jumpIf rfl ?_, jumpsIf_jumpIf rfl ?_⟩
  all_goals simp [Flags.cond]

/-- Settles O54: each form is `jumpIf` on its own row of the condition table (41_alu_flags.md R255). -/
theorem jumpsOnSignParityOrder : Obligations.JumpsOnSignParityOrder := by
  intro s rel
  refine ⟨jumpsIf_jumpIf rfl ?_, jumpsIf_jumpIf rfl ?_, jumpsIf_jumpIf rfl ?_, jumpsIf_jumpIf rfl ?_,
    jumpsIf_jumpIf rfl ?_, jumpsIf_jumpIf rfl ?_, jumpsIf_jumpIf rfl ?_, jumpsIf_jumpIf rfl ?_⟩
  all_goals simp [Flags.cond]

/-- Settles O55: the loops are `loopIf` on nothing more, on Z and on not Z; JCXZ is `jumpIf` on CX as it stands. -/
theorem loopsAndJcxz : Obligations.LoopsAndJcxz := fun _ _ =>
  ⟨loopsIf_loopIf rfl (iff_of_true rfl trivial), loopsIf_loopIf rfl Iff.rfl,
    loopsIf_loopIf rfl (Bool.not_eq_true' _).to_iff, jumpsIf_jumpIf rfl beq_iff_eq⟩

/-! ## CALL and RET -/

/-- The instruction returns to the word at SS:SP, with `sp` in SP, and changes nothing else
(46_control_transfer.md R425, R426). -/
def Returns (i : Instr) (s : State) (sp : Word) : Prop :=
  ∃ t, exec i s = .next t ∧ t.queue = [] ∧ t.ip = s.memRead16 (s.sreg .ss) (s.x16 .sp) ∧ Reg16Written s t .sp sp ∧
    SameMem s t ∧ t.flags = s.flags ∧ SameSegs s t ∧ SameControl s t

section
variable {i : Instr} {s : State} {opc : Byte}

/-- What a call does where SP is at least 2: it pushes nextIP and then jumps (46_control_transfer.md R423, R424). -/
theorem calls_call {target : Word} (hsp : 2 ≤ (s.x16 .sp).toNat) (h : exec i s = call opc target s) :
    Calls i s s.archIp target := by
  obtain ⟨hreg, hmem⟩ := push16_written s s.archIp
  exact ⟨_, h.trans (pushThen_next hsp), hreg, hmem, rfl, rfl, rfl, fun _ => rfl, SameControl.refl s⟩

/-- What a call does where SP is below 2 (46_control_transfer.md R423, R424). -/
theorem raises_call {target : Word} (hsp : (s.x16 .sp).toNat < 2) (h : exec i s = call opc target s) :
    Raises i s .stackFault opc :=
  ⟨_, h.trans (pushThen_raise hsp), faultTaken_raise s .stackFault opc⟩

/-- What a return does where its whole SP movement fits: it pops and then jumps (46_control_transfer.md R425, R426). -/
theorem returns_popThen {extra sp : Word} (hsp : (s.x16 .sp).toNat + (2 + extra.toNat) ≤ 0xFFFF)
    (h : exec i s = popThen opc extra (fun v t => t.jump v) s) (hmoved : s.x16 .sp + 2 + extra = sp) :
    Returns i s sp := by
  subst hmoved
  exact ⟨_, h.trans (popThen_next hsp), rfl, rfl, reg16Written_setX16 s .sp _, fun _ => rfl, rfl, fun _ => rfl,
    SameControl.refl s⟩

/-- What a return does where SP would pass 0xFFFF, in exact integers (46_control_transfer.md R425, R426). -/
theorem raises_popThen {extra : Word} (hsp : 0xFFFF < (s.x16 .sp).toNat + (2 + extra.toNat))
    (h : exec i s = popThen opc extra (fun v t => t.jump v) s) : Raises i s .stackFault opc :=
  ⟨_, h.trans (popThen_raise hsp), faultTaken_raise s .stackFault opc⟩

end

/-- Settles O56: both forms are `call`, whose target is an argument and so is that of the state before the push. -/
theorem callPushesReturnOffset : Obligations.CallPushesReturnOffset := by
  refine fun s => ⟨fun hsp => ⟨fun rel => ?_, fun rm => calls_call hsp rfl⟩,
    fun hsp => ⟨fun rel => raises_call hsp rfl, fun rm => raises_call hsp rfl⟩⟩
  rw [← target16_eq_ofNat]
  exact calls_call hsp rfl

/-- Settles O57: both forms are a pop that jumps, RET with no more bytes to drop. -/
theorem retPopsReturnOffset : Obligations.RetPopsReturnOffset := by
  intro s
  refine ⟨fun hsp => returns_popThen (extra := 0) hsp rfl ?_, fun hsp => raises_popThen (extra := 0) hsp rfl,
    fun imm => ?_⟩
  · exact BitVec.add_zero _
  · rw [Nat.add_assoc]
    refine ⟨fun hsp => returns_popThen hsp rfl ?_, fun hsp => raises_popThen hsp rfl⟩
    simp [BitVec.ofNat_add, BitVec.add_assoc]

end Sys2Proof.Machine
end

section
/-! PROOFS. Processor control (47_processor_control.md R450 to R458): HLT, the flag instructions, and the flags that are
storage only (60_exceptions.md R510). -/

namespace Sys2Proof.Machine

/-! ## HLT and the flag instructions -/

/-- Settles O58: HLT is one write of status and haltReason, each flag instruction one write of the flags. -/
theorem hltAndFlagControl : Obligations.HltAndFlagControl := fun _ =>
  ⟨rfl, setsFlags_setFlags rfl, setsFlags_setFlags rfl, setsFlags_setFlags rfl, setsFlags_setFlags rfl,
    setsFlags_setFlags rfl, setsFlags_setFlags rfl, setsFlags_setFlags rfl⟩

/-! ## TF, IF and DF replaced -/

/-- The flags `f` with TF, IF and DF taken from `g`. -/
def Flags.withStored (f g : Flags) : Flags := { f with tf := g.tf, ief := g.ief, df := g.df }

/-- The state `s` with TF, IF and DF taken from `g`. -/
def State.withStored (s : State) (g : Flags) : State := s.setFlags (s.flags.withStored g)

theorem sameButStoredFlags_withStored (s : State) (g : Flags) : SameButStoredFlags s (s.withStored g) :=
  ⟨g.tf, g.ief, g.df, rfl⟩

theorem exists_withStored_of_sameButStoredFlags {s s' : State} (h : SameButStoredFlags s s') :
    ∃ g, s' = s.withStored g := by
  obtain ⟨a, b, c, rfl⟩ := h
  exact ⟨{ s.flags with tf := a, ief := b, df := c }, rfl⟩

/-- The low byte of the FLAGS word has no bit of TF, IF or DF (10_state.md R42). -/
theorem lowByte_withStored (f g : Flags) : (f.withStored g).lowByte = f.lowByte := by
  rw [lowByte_eq_ofNat, lowByte_eq_ofNat]
  rfl

/-! ## Instructions that neither read nor write TF, IF and DF -/

/-- The second result is the first with TF, IF and DF taken from `g`. -/
def SameWithStored (g : Flags) (r r' : Result) : Prop := ∃ t, r = .next t ∧ r' = .next (t.withStored g)

section
variable {g : Flags}

theorem sameWithStored_next (t : State) : SameWithStored g (.next t) (.next (t.withStored g)) := ⟨t, rfl, rfl⟩

theorem sameWithStored_writePlace8 (t : State) (p : Place Reg8) (v : Byte) :
    SameWithStored g (.next (t.writePlace8 p v)) (.next ((t.withStored g).writePlace8 p v)) := by
  cases p <;> exact sameWithStored_next _

theorem sameWithStored_writePlace16 (t : State) (p : Place Reg16) (v : Word) :
    SameWithStored g (.next (t.writePlace16 p v)) (.next ((t.withStored g).writePlace16 p v)) := by
  cases p <;> exact sameWithStored_next _

theorem sameWithStored_setFlags {t t' : State} (f : Flags) (h : SameWithStored g (.next t) (.next t')) :
    SameWithStored g (.next (t.setFlags f)) (.next (t'.setFlags (f.withStored g))) := by
  obtain ⟨_, ⟨⟩, ⟨⟩⟩ := h
  exact sameWithStored_next _

theorem sameWithStored_ite {c : Prop} [Decidable c] {r₁ r₂ r₁' r₂' : Result} (h₁ : SameWithStored g r₁ r₁')
    (h₂ : SameWithStored g r₂ r₂') : SameWithStored g (if c then r₁ else r₂) (if c then r₁' else r₂') := by
  split
  · exact h₁
  · exact h₂

theorem sameWithStored_jumpIf (c : Bool) (rel : Byte) (t : State) :
    SameWithStored g (jumpIf c rel t) (jumpIf c rel (t.withStored g)) := by
  cases c <;> exact sameWithStored_next _

end

/-- The instructions that write TF, IF or DF, and PUSHF, which reads them (47_processor_control.md R458). -/
def storedFlagInstrs : List Instr := [.pushf, .popf, .cli, .sti, .cld, .std]

/-- Every other instruction, by what its meaning ends in: a stack check or a division check that may raise, a
conditional transfer, a write to an operand with or without flags, or else one next state. What it reads of the state,
the conditions of the jumps included, is the same whatever TF, IF and DF are. -/
theorem exec_sameWithStored {i : Instr} (hi : i ∉ storedFlagInstrs) (s : State) (g : Flags) :
    SameWithStored g (exec i s) (exec i (s.withStored g)) := by
  cases i
  case pushf | popf | cli | sti | cld | std => exact absurd (by decide) hi
  case pushEs | pushCs | pushSs | pushDs | pushAx | pushCx | pushDx | pushBx | pushSp | pushBp | pushSi | pushDi
      | pushRm16 | popEs | popSs | popDs | popAx | popCx | popDx | popBx | popSp | popBp | popSi | popDi | callRel16
      | callRm16 | ret | retImm16 | divRm8 | divRm16 | idivRm8 | idivRm16 =>
    exact sameWithStored_ite (sameWithStored_next _) (sameWithStored_next _)
  case popRm16 => exact sameWithStored_ite (sameWithStored_writePlace16 _ _ _) (sameWithStored_next _)
  case joRel8 | jnoRel8 | jbRel8 | jaeRel8 | jeRel8 | jneRel8 | jbeRel8 | jaRel8 | jsRel8 | jnsRel8 | jpRel8 | jnpRel8
      | jlRel8 | jgeRel8 | jleRel8 | jgRel8 | jcxzRel8 =>
    exact sameWithStored_jumpIf _ _ s
  case loopRel8 | loopeRel8 | loopneRel8 => exact sameWithStored_jumpIf _ _ (s.setX16 .cx (s.x16 .cx - 1))
  case lahf =>
    have hbyte : s.flags.lowByte = (s.withStored g).flags.lowByte := (lowByte_withStored s.flags g).symm
    exact ⟨_, rfl, by rw [hbyte]; rfl⟩
  case movRm8R8 | movRm8Imm8 | notRm8 | xchgRm8R8 => exact sameWithStored_writePlace8 _ _ _
  case movRm16R16 | movRm16Imm16 | movRm16Sreg | notRm16 | xchgRm16R16 => exact sameWithStored_writePlace16 _ _ _
  case addRm8R8 | orRm8R8 | adcRm8R8 | sbbRm8R8 | andRm8R8 | subRm8R8 | xorRm8R8 | addRm8Imm8 | orRm8Imm8 | adcRm8Imm8
      | sbbRm8Imm8 | andRm8Imm8 | subRm8Imm8 | xorRm8Imm8 | negRm8 | incRm8 | decRm8 =>
    exact sameWithStored_setFlags _ (sameWithStored_writePlace8 _ _ _)
  case addRm16R16 | orRm16R16 | adcRm16R16 | sbbRm16R16 | andRm16R16 | subRm16R16 | xorRm16R16 | addRm16Imm16
      | orRm16Imm16 | adcRm16Imm16 | sbbRm16Imm16 | andRm16Imm16 | subRm16Imm16 | xorRm16Imm16 | addRm16Imm8
      | orRm16Imm8 | adcRm16Imm8 | sbbRm16Imm8 | andRm16Imm8 | subRm16Imm8 | xorRm16Imm8 | negRm16 | incRm16 | decRm16 =>
    exact sameWithStored_setFlags _ (sameWithStored_writePlace16 _ _ _)
  all_goals exact sameWithStored_next _

/-! ## Who writes TF, IF and DF -/

/-- An instruction that answers the same with TF, IF and DF put back to what they were has not written them. -/
theorem exec_keeps_stored {i : Instr} {s t : State} (hi : i ∉ storedFlagInstrs) (h : exec i s = .next t) :
    t.flags = t.flags.withStored s.flags := by
  obtain ⟨u, hu, hu'⟩ := exec_sameWithStored hi s s.flags
  cases hu.symm.trans h
  have hsame : t = t.withStored s.flags := by simpa using h.symm.trans hu'
  exact congrArg State.flags hsame

/-- PUSHF writes no flag, whether it pushes or faults (45_stack.md R388). -/
theorem exec_pushf_keeps_flags {s t : State} (h : exec .pushf s = .next t) : t.flags = s.flags := by
  have hpush : exec .pushf s = push 0x9C s.flags.word s := rfl
  rw [hpush, push, pushThen] at h
  split at h
  all_goals
    cases h
    rfl

/-- The writers of each of the three flags (60_exceptions.md R510). -/
theorem storedFlag_writers {i : Instr} {s t : State} (h : exec i s = .next t) :
    (t.flags.tf ≠ s.flags.tf → i = .popf) ∧
    (t.flags.ief ≠ s.flags.ief → i = .cli ∨ i = .sti ∨ i = .popf) ∧
    (t.flags.df ≠ s.flags.df → i = .cld ∨ i = .std ∨ i = .popf) := by
  by_cases hi : i ∈ storedFlagInstrs
  · simp only [storedFlagInstrs, List.mem_cons, List.not_mem_nil, or_false] at hi
    obtain rfl | rfl | rfl | rfl | rfl | rfl := hi
    case inl => simp [exec_pushf_keeps_flags h]
    case inr.inl => simp
    all_goals cases h; simp
  · rw [exec_keeps_stored hi h]
    simp [Flags.withStored]

/-! ## Nothing but PUSHF reads TF, IF and DF -/

/-- POPF writes all nine flags from the popped word, so what TF, IF and DF were is lost (45_stack.md R389). -/
theorem exec_popf_sameButStoredFlags (s : State) (g : Flags) : ∃ t t', exec .popf s = .next t ∧
    exec .popf (s.withStored g) = .next t' ∧ SameButStoredFlags t t' := by
  rcases Nat.lt_or_ge 0xFFFF ((s.x16 .sp).toNat + 2) with hsp | hsp
  · exact ⟨_, _, (exec_popf s).trans (popThen_raise (extra := 0) hsp),
      (exec_popf (s.withStored g)).trans (popThen_raise (extra := 0) hsp), sameButStoredFlags_withStored _ g⟩
  · exact ⟨_, _, (exec_popf s).trans (pop_next hsp), (exec_popf (s.withStored g)).trans (pop_next hsp),
      sameButStoredFlags_withStored _ (Flags.ofWord s.stackTop)⟩

/-- CLI, STI, CLD and STD write one of the three flags and read none; every other instruction but PUSHF and POPF leaves
them as they are in either state. -/
theorem exec_sameButStoredFlags {i : Instr} (hpushf : i ≠ .pushf) (s : State) (g : Flags) : ∃ t t', exec i s = .next t ∧
    exec i (s.withStored g) = .next t' ∧ SameButStoredFlags t t' := by
  by_cases hi : i ∈ storedFlagInstrs
  · simp only [storedFlagInstrs, List.mem_cons, List.not_mem_nil, or_false, hpushf, false_or] at hi
    obtain rfl | rfl | rfl | rfl | rfl := hi
    case inl => exact exec_popf_sameButStoredFlags s g
    all_goals exact ⟨_, _, rfl, rfl, _, _, _, rfl⟩
  · obtain ⟨t, ht, ht'⟩ := exec_sameWithStored hi s g
    exact ⟨t, _, ht, ht', sameButStoredFlags_withStored t g⟩

/-- Settles O29: outside six instructions, replacing TF, IF and DF before execution is replacing them after it, so they
are neither read nor written; the six are looked at one by one. -/
theorem storedFlagsAreInert : Obligations.StoredFlagsAreInert := by
  refine ⟨⟨rfl, rfl, rfl⟩, fun _ _ _ => storedFlag_writers, fun i s s' t hpushf hs h => ?_⟩
  obtain ⟨g, rfl⟩ := exists_withStored_of_sameButStoredFlags hs
  obtain ⟨u, t', hu, ht', hsame⟩ := exec_sameButStoredFlags hpushf s g
  cases hu.symm.trans h
  exact ⟨t', ht', hsame⟩

end Sys2Proof.Machine
end

section
/-! PROOFS. Faults: what a step that raises one does, which instruction raises which, and on what cause
(60_exceptions.md R500 to R503). -/

namespace Sys2Proof.Machine

/-! ## An instruction that has cause for a fault -/

theorem not_pushFits {s : State} (h : (s.x16 .sp).toNat < 2) : ¬s.pushFits 2 = true := by
  simpa [State.pushFits] using h

theorem not_popFits {s : State} {n : Nat} (h : 0xFFFF < (s.x16 .sp).toNat + 2 + n) : ¬s.popFits (2 + n) = true := by
  simpa [State.popFits, Nat.add_assoc] using h

/-- An instruction that has cause for a fault raises it, with its own first byte: its cause is the failing check that it
begins with (60_exceptions.md R501, R503). -/
theorem exec_of_faultCause {i : Instr} {s : State} {k : FaultKind} (h : FaultCause i s k) :
    ∃ opc tail, encode i = opc :: tail ∧ exec i s = .next (s.raise k opc) := by
  cases i
  case pushEs | pushCs | pushSs | pushDs | pushAx | pushCx | pushDx | pushBx | pushSp | pushBp | pushSi | pushDi | pushf
      | pushRm16 | callRel16 | callRm16 =>
    obtain ⟨rfl, hlow⟩ := h
    exact ⟨_, _, rfl, if_neg (not_pushFits hlow)⟩
  case popEs | popSs | popDs | popAx | popCx | popDx | popBx | popSp | popBp | popSi | popDi | popf | popRm16 | ret
      | retImm16 =>
    obtain ⟨rfl, hhigh⟩ := h
    exact ⟨_, _, rfl, if_neg (not_popFits hhigh)⟩
  case divRm8 | divRm16 | idivRm8 | idivRm16 =>
    obtain ⟨rfl, hdiv⟩ := h
    exact ⟨_, _, rfl, if_pos hdiv⟩
  case invalid =>
    cases h
    exact ⟨_, _, rfl, rfl⟩
  all_goals cases h

/-- Fill and decode change nothing that a cause depends on but the override. -/
theorem faultCause_executing {i : Instr} {s : State} {o : Option SegReg} {q : List Byte} {p : Word} {k : FaultKind} :
    FaultCause i (s.executing o q p) k ↔ FaultCause i { s with segOverride := o } k :=
  ⟨faultCause_congr rfl rfl rfl rfl rfl, faultCause_congr rfl rfl rfl rfl rfl⟩

/-! ## A step that raises a fault -/

@[simp] theorem bind_segPrefix?_map_prefixOf (o : Option SegReg) : (o.map prefixOf).bind Instr.segPrefix? = o := by
  cases o <;> simp

/-- A step from `s` to `t` that raises the fault `k`, with the opcode byte `opc`, on the instruction `i` after the
override `pre`: it is taken as if from `s` itself, at the address of the first byte (60_exceptions.md R501 to R503). -/
structure FaultingStep (s t : State) (pre : Option Instr) (i : Instr) (k : FaultKind) (opc : Byte) : Prop where
  decoded : ∃ rest, decode s.beginStep.window = .ok pre i rest
  cause : FaultCause i { s with segOverride := pre.bind Instr.segPrefix? } k
  first : ∃ tail, encode i = opc :: tail
  taken : FaultTaken { s with instrStart := s.archIp } t k opc

/-- HALTED stays as it is, the end of the program halts, and an instruction without cause halts or runs on: FAULTED
comes of a raised fault alone. -/
theorem exists_faultingStep {s t : State} (h : step s = .next t) (hf : t.status = .faulted) :
    ∃ pre i k opc, FaultingStep s t pre i k opc := by
  cases stepEffect_of_step h with
  | halted hst same =>
    subst same
    cases hst.symm.trans hf
  | endOfProgram _ _ next =>
    subst next
    cases hf
  | executed _ o i rest q p v hd hi _ hv next =>
    subst next
    rcases exec_cases hi hv with ⟨k, _, hcause, _⟩ | hkept
    · obtain ⟨opc, tail, hfirst, hraise⟩ := exec_of_faultCause hcause
      cases hraise.symm.trans hv
      exact ⟨o.map prefixOf, i, k, opc, {
        decoded := ⟨rest, hd⟩
        cause := by simpa using faultCause_executing.mp hcause
        first := ⟨tail, hfirst⟩
        taken := faultTaken_raise (s.executing o q p) k opc }⟩
    · rcases hkept.status with ⟨hst, _⟩ | ⟨hst, _⟩ <;> cases hst.symm.trans hf

/-- Settles O23: a faulting step changes what taking a fault changes and nothing else. -/
theorem faultsArePrecise : Obligations.FaultsArePrecise := by
  intro s t _ h hf
  obtain ⟨_, _, _, _, hstep⟩ := exists_faultingStep h hf
  obtain ⟨_, hfaultIp, _, hqueue, hip, _, _, hregs, hmem, hsegs, hflags, hconfig⟩ := hstep.taken
  have harchIp : t.archIp = s.archIp := by simpa [State.archIp, hqueue] using hip
  exact ⟨hregs, hsegs, hflags, hmem, hconfig, hqueue, hfaultIp, hip.trans hfaultIp.symm, harchIp.trans hfaultIp.symm⟩

/-- Settles O24: the byte recorded is the first one of the encoding of the instruction that raises. -/
theorem faultRecordNamesTheInstruction : Obligations.FaultRecordNamesTheInstruction := by
  intro s t _ h hf
  obtain ⟨pre, i, _, _, hstep⟩ := exists_faultingStep h hf
  obtain ⟨_, hfaultIp, hopcode, _⟩ := hstep.taken
  obtain ⟨rest, hd⟩ := hstep.decoded
  obtain ⟨tail, hfirst⟩ := hstep.first
  exact ⟨pre, i, rest, tail, hd, hfaultIp, hopcode ▸ hfirst⟩

/-! ## The kinds of faults and their causes -/

/-- A step raises a fault exactly on a cause that the decoded instruction has for it (60_exceptions.md R500). -/
theorem step_raises_iff_faultCause {s t : State} {pre : Option Instr} {i : Instr} {rest : List Byte} (hs : s.steps)
    (h : step s = .next t) (hd : decode s.beginStep.window = .ok pre i rest) (k : FaultKind) :
    t.status = .faulted ∧ t.faultKind = k ↔ FaultCause i { s with segOverride := pre.bind Instr.segPrefix? } k := by
  constructor
  · rintro ⟨hf, rfl⟩
    obtain ⟨_, _, _, _, hstep⟩ := exists_faultingStep h hf
    obtain ⟨_, hd'⟩ := hstep.decoded
    obtain ⟨hkind, _⟩ := hstep.taken
    cases hd.symm.trans hd'
    exact hkind ▸ hstep.cause
  · intro hcause
    obtain ⟨_, o, rfl⟩ := decode_ok hd
    rw [bind_segPrefix?_map_prefixOf] at hcause
    obtain ⟨opc, _, _, hraise⟩ := exec_of_faultCause (faultCause_executing.mpr hcause)
    rw [step_of_decode hs hd, consume_beginStep] at h
    cases h.symm.trans (congrArg finishStep hraise)
    exact ⟨rfl, rfl⟩

/-- After a segment override, only another one is read as something else (30_encoding.md R131). -/
theorem readAfter_cases (o : Option SegReg) (j : Instr) :
    readAfter o j = j ∨
      o.isSome = true ∧ ∃ (q : SegReg) (b : Byte), prefixBytes (some q) = [b] ∧ readAfter o j = .invalid b none := by
  cases o with
  | none => exact .inl rfl
  | some r =>
    by_cases hj : j.segPrefix?.isNone = true
    · exact .inl (if_pos hj)
    · obtain ⟨q, rfl⟩ := exists_prefixOf hj
      exact .inr ⟨rfl, q, by cases q <;> exact ⟨_, rfl, rfl⟩⟩

/-- A rejection that the decoder answers is one of R500's: the unit read is a rejected encoding, or it is a second
segment override (30_encoding.md R131, R166). -/
theorem rejected_of_decode {bs rest : List Byte} {pre : Option Instr} {opc : Byte} {modrm : Option Byte}
    (h : decode bs = .ok pre (.invalid opc modrm) rest) : Rejected pre opc modrm := by
  obtain ⟨o, j, bs', _, hj, _, rfl, hread⟩ := exists_unit_of_decode h
  rcases readAfter_cases o j with hsame | ⟨ho, q, b, hbyte, hinvalid⟩
  · obtain ⟨hw, _⟩ := encodeInvertsDecode _ _ _ hj
    rw [← hsame, ← hread] at hw
    exact .inl hw
  · cases hread.trans hinvalid
    exact .inr ⟨by simpa using ho, rfl, q, hbyte⟩

/-- Settles O25: a cause is of one of three kinds, the end of the program halts, and every rejection has its reason. -/
theorem faultKindsAndTheirCauses : Obligations.FaultKindsAndTheirCauses := by
  refine ⟨⟨rfl, rfl, rfl, rfl, rfl⟩, fun s t hs h => ⟨fun hf => ?_, fun hend => ?_, fun pre i rest hd => ?_⟩⟩
  · obtain ⟨_, _, _, _, hstep⟩ := exists_faultingStep h hf
    obtain ⟨hkind, _⟩ := hstep.taken
    exact hkind ▸ faultCause_kind hstep.cause
  · cases h.symm.trans (step_of_endOfProgram hs hend)
    exact nofun
  · refine ⟨step_raises_iff_faultCause hs h hd, ?_⟩
    rintro opc modrm rfl
    exact rejected_of_decode hd

end Sys2Proof.Machine
end

section
/-! PROOFS. reset() and the state after reset (70_reset_and_hazards.md R540 to R543). -/

namespace Sys2Proof.Machine

theorem validLoad_of_load {img : Image} {cfg : LoadConfig} {s t : State} (h : load img cfg s = (t, .ok)) :
    validLoad img cfg := by
  by_contra hinvalid
  cases h.symm.trans (load_of_invalid hinvalid s)

/-- A valid `load` answers the same from every state (70_reset_and_hazards.md R541). -/
theorem load_from_any {img : Image} {cfg : LoadConfig} (h : validLoad img cfg) (s u : State) :
    load img cfg s = load img cfg u := by
  rw [load_of_valid h, load_of_valid h]

/-- The configuration registers hold what a valid `load` was given, the segment bases in 16 bits (10_state.md R37,
R56). -/
theorem config_of_load {img : Image} {cfg : LoadConfig} {s t : State} (h : load img cfg s = (t, .ok)) :
    t.image = img ∧ t.config = cfg := by
  have hvalid := validLoad_of_load h
  cases h.symm.trans (load_of_valid hvalid s)
  obtain ⟨_, _, hds, hcs, hss, hes, _, _⟩ := hvalid
  refine ⟨rfl, ?_⟩
  simp [State.config, State.afterLoad, LoadConfig.bases, Nat.mod_eq_of_lt, hds, hcs, hss, hes]

theorem config_of_same {s t : State} (h : SameConfig s t) : t.image = s.image ∧ t.config = s.config := by
  obtain ⟨hm, hq, hb, _, _, hi⟩ := h
  exact ⟨hi, by simp only [State.config, hm, hq, hb]⟩

/-- Settles O32: the stored image and configuration are those that `load` was given, and `load` does not look at the
state it is called in. -/
theorem resetReloadsTheStoredImage : Obligations.ResetReloadsTheStoredImage := by
  refine ⟨fun img cfg s t u h hsame hu => ?_, fun s hs => if_pos hs⟩
  obtain ⟨himg, hcfg⟩ := config_of_load h
  obtain ⟨hstored, hconfig⟩ := config_of_same hsame
  calc hostReset u
      = load u.image u.config u := if_neg hu
    _ = load img cfg u := by rw [hstored, hconfig, himg, hcfg]
    _ = load img cfg s := load_from_any (validLoad_of_load h) u s
    _ = (t, .ok) := h

/-- Settles O26: `State.reset` is what `load` leaves for the empty image, and every such state meets the invariant. -/
theorem resetStateMeetsTheInvariant : Obligations.ResetStateMeetsTheInvariant := by
  have hvalid : validLoad Image.empty { } := by decide
  have hload : load Image.empty { } State.powerOn = (State.reset, .ok) := load_of_valid hvalid _
  have hinv := inv_load hvalid State.powerOn
  rw [hload] at hinv
  exact ⟨hinv, hload⟩

end Sys2Proof.Machine
end
